-- ==== Sys2Proof/Word.lean ====
section
/-! DEFINITION. The data widths of the block (spec/00_scope.md R9, R10) and its number domain (spec/40_math.md R120). -/

namespace Sys2Proof

/-- `Byte` of R10: an opcode is 8 bits. -/
abbrev Byte := BitVec 8

/-- `Word32` of R10: every submitted unit, every parameter and every result register is one 32-bit word.
Bit 0 is the least significant bit. -/
abbrev Word := BitVec 32

/-- The values of `NUM` (R8, R120): the rationals. Its arithmetic is the parameter `Machine.Params.num`, exact by default
(notes/assumptions/3.md). -/
abbrev NUM := Rat

end Sys2Proof
end

