-- ==== Sys2Proof/Config.lean ====
section
/-! DEFINITION. The types the parameters of spec/00_scope.md R8 range over, and the free values (`draw` of R11, and what a configuration or
the spec leaves open), which are opaque: nothing can be proved about which value they take. The parameters themselves and their defaults are in
Machine/Params.lean. -/

namespace Sys2Proof

/-- The two orders `MUL_ORDER` of R8 and R127 may take. -/
inductive MulOrder where
  /-- `C <- matmul(M, C)`: the operand stands on the left. -/
  | operandLeft
  /-- `C <- matmul(C, M)`: the operand stands on the right. -/
  | operandRight
deriving DecidableEq, Repr

/-- The parameter `to_fix12` of R8 and D8: the default conversion of R122, or any other one. -/
inductive Fix12Conversion where
  /-- R122: truncation toward zero, a free word out of range. -/
  | truncate
  /-- Some other function: the free value `Config.otherFix12` (notes/assumptions/23.md). -/
  | other
deriving DecidableEq, Repr

/-- What a command does that must compute with, or select by, an element nothing has written since reset (R186, R190, R221, R372, D32, U6).
The spec has one treatment, `refuse`, and it is the default; `run` is the model's own (notes/assumptions/2.md). -/
inductive UnwrittenUse where
  /-- THE MODEL'S OWN. The command runs on the value the element holds, and what it gives is marked `Unwritten`. -/
  | run
  /-- The spec's treatment (D32, U6): the command is refused. -/
  | refuse
deriving DecidableEq, Repr

/-- The type of `PIX_CLEAR` and `PIX_LINE`. The spec gives no pixel format (R8, D25): a pixel value is a number that names it
(notes/assumptions/11.md). -/
abbrev Pixel := Nat

/-- `ARITY : Byte -> Nat` of R8 as data: the opcodes that take parameter words, with their number. An opcode not listed has arity 0
(R96). -/
abbrev ArityTable := List (Byte × Nat)

/-- `ARITY[op]` (R144). -/
def ArityTable.get (t : ArityTable) (op : Byte) : Nat := (t.lookup op).getD 0

/-- FREE VALUE. The `draw Word32` of R122 (U2): the word a result register takes when the fixed-point value is out of the
signed 32-bit range, as a function of the draw's number (`State.draws`, notes/assumptions/6.md). -/
opaque Config.freeWord : Nat → Word

/-- FREE VALUE. The conversion of a block whose `to_fix12` is not the default (R8, D8, notes/assumptions/23.md). -/
opaque Config.otherFix12 : NUM → Word

/-- FREE VALUE. The sum of two numbers of a `NUM` that is not exact (R120, U9, notes/assumptions/3.md). -/
opaque Config.otherAdd : NUM → NUM → NUM

/-- FREE VALUE. The difference of two numbers of a `NUM` that is not exact. -/
opaque Config.otherSub : NUM → NUM → NUM

/-- FREE VALUE. The product of two numbers of a `NUM` that is not exact. -/
opaque Config.otherMul : NUM → NUM → NUM

/-- FREE VALUE. The quotient of two numbers of a `NUM` that is not exact. -/
opaque Config.otherDiv : NUM → NUM → NUM

/-- FREE VALUE. An integer as a number of a `NUM` that is not exact. -/
opaque Config.otherOfInt : Int → NUM

/-- FREE VALUE. A parameter word that a command's rule reads and the configured `ARITY` gives it no word for, as a function of the
draw's number (R8, R146, notes/assumptions/14.md). -/
opaque Config.missingParam : Nat → Word

/-- FREE VALUE. Entry `k` of a matrix read from slot `i` of a shared stack whose configured `PV_STACK_SLOTS` leaves it out
(notes/assumptions/14.md). -/
opaque Config.missingSlot : (i k : Nat) → NUM

/-- FREE VALUE. `BOXTEST_VALUE`, the `draw Bit` of R305 (U5), as a function of the draw's number
(`State.draws`, notes/assumptions/7.md). -/
opaque Config.freeBit : Nat → Bool

end Sys2Proof
end

