-- ==== Sys2Proof/Syntax.lean ====
section
/-! DEFINITION. The command set: one constructor for each of the 39 rows of spec/opcode_table.json (spec/30_encoding.md R91,
R96, R97). A constructor carries the fields the command's rule names; a parameter word the rule calls ignored as a whole is
carried whole, and bits of a parameter word that no field names are dropped by the decoder (R94). -/

namespace Sys2Proof

/-- A command: one opcode byte with its parameter fields. -/
inductive Instr where
  /-- NOP, opcode 0x00 (R291). -/
  | nop
  /-- MTX_MODE, opcode 0x10 (R172): field `m = P[0][1:0]`. -/
  | mtxMode (m : BitVec 2)
  /-- MTX_PUSH, opcode 0x11 (R174). -/
  | mtxPush
  /-- MTX_POP, opcode 0x12 (R175): signed field `n = P[0][5:0]`. -/
  | mtxPop (n : BitVec 6)
  /-- MTX_STORE, opcode 0x13 (R176): field `i = P[0][4:0]`. -/
  | mtxStore (i : BitVec 5)
  /-- MTX_RESTORE, opcode 0x14 (R177): field `i = P[0][4:0]`. -/
  | mtxRestore (i : BitVec 5)
  /-- MTX_IDENTITY, opcode 0x15 (R178). -/
  | mtxIdentity
  /-- MTX_LOAD_4x4, opcode 0x16 (R179). -/
  | mtxLoad4x4 (a : Vector Word 16)
  /-- MTX_LOAD_4x3, opcode 0x17 (R180). -/
  | mtxLoad4x3 (a : Vector Word 12)
  /-- MTX_MULT_4x4, opcode 0x18 (R181). -/
  | mtxMult4x4 (a : Vector Word 16)
  /-- MTX_MULT_4x3, opcode 0x19 (R182). -/
  | mtxMult4x3 (a : Vector Word 12)
  /-- MTX_MULT_3x3, opcode 0x1A (R183). -/
  | mtxMult3x3 (a : Vector Word 9)
  /-- MTX_SCALE, opcode 0x1B (R184). -/
  | mtxScale (sx sy sz : Word)
  /-- MTX_TRANS, opcode 0x1C (R185). -/
  | mtxTrans (tx ty tz : Word)
  /-- COLOR, opcode 0x20 (R292). -/
  | color (p : Word)
  /-- NORMAL, opcode 0x21 (R293). -/
  | normal (p : Word)
  /-- TEXCOORD, opcode 0x22 (R294). -/
  | texcoord (p : Word)
  /-- VTX_16, opcode 0x23 (R212). -/
  | vtx16 (x y z : BitVec 16)
  /-- VTX_10, opcode 0x24 (R213). -/
  | vtx10 (x y z : BitVec 10)
  /-- VTX_XY, opcode 0x25 (R214). -/
  | vtxXy (x y : BitVec 16)
  /-- VTX_XZ, opcode 0x26 (R215). -/
  | vtxXz (x z : BitVec 16)
  /-- VTX_YZ, opcode 0x27 (R216). -/
  | vtxYz (y z : BitVec 16)
  /-- VTX_DIFF, opcode 0x28 (R217). -/
  | vtxDiff (dx dy dz : BitVec 10)
  /-- POLYGON_ATTR, opcode 0x29 (R295). -/
  | polygonAttr (p : Word)
  /-- TEXIMAGE_PARAM, opcode 0x2A (R296). -/
  | teximageParam (p : Word)
  /-- PLTT_BASE, opcode 0x2B (R297). -/
  | plttBase (p : Word)
  /-- DIF_AMB, opcode 0x30 (R298). -/
  | difAmb (p : Word)
  /-- SPE_EMI, opcode 0x31 (R299). -/
  | speEmi (p : Word)
  /-- LIGHT_VECTOR, opcode 0x32 (R300). -/
  | lightVector (p : Word)
  /-- LIGHT_COLOR, opcode 0x33 (R301). -/
  | lightColor (p : Word)
  /-- SHININESS, opcode 0x34 (R302), the largest arity. -/
  | shininess (p : Vector Word 32)
  /-- BEGIN_VTXS, opcode 0x40 (R241): field `t = P[0][1:0]`. -/
  | beginVtxs (t : BitVec 2)
  /-- END_VTXS, opcode 0x41 (R242). -/
  | endVtxs
  /-- SWAP_BUFFERS, opcode 0x50 (R260). -/
  | swapBuffers (p : Word)
  /-- VIEWPORT, opcode 0x60 (R303). -/
  | viewport (p : Word)
  /-- BOX_TEST, opcode 0x70 (R305). -/
  | boxTest (p0 p1 p2 : Word)
  /-- POS_TEST, opcode 0x71 (R218). -/
  | posTest (x y z : BitVec 16)
  /-- VEC_TEST, opcode 0x72 (R304). -/
  | vecTest (p : Word)
  /-- UNDEF(op), any opcode byte no other row matches (R98, R306). -/
  | undef (op : Byte)
deriving DecidableEq, Repr

end Sys2Proof
end

