-- ==== Sys2Proof/WellFormed.lean ====
section
/-! DEFINITION. Which terms of `Instr` stand for a command of the stream. All operands are bounded by their types; the one
check is that `undef op` carries an undefined opcode (spec/30_encoding.md R98). -/

namespace Sys2Proof

/-- The ranges of byte values that R98 lists as undefined opcodes (218 values). -/
def isUndefinedOpcode (op : Byte) : Bool :=
  let n := op.toNat
  (0x01 ≤ n && n ≤ 0x0F) || (0x1D ≤ n && n ≤ 0x1F) || (0x2C ≤ n && n ≤ 0x2F) || (0x35 ≤ n && n ≤ 0x3F) ||
  (0x42 ≤ n && n ≤ 0x4F) || (0x51 ≤ n && n ≤ 0x5F) || (0x61 ≤ n && n ≤ 0x6F) || (0x73 ≤ n && n ≤ 0x7F) ||
  (0x80 ≤ n && n ≤ 0xFF)

/-- A command is well formed when its opcode byte is its own: `undef op` stands only for the bytes of R98. -/
def Instr.wf (i : Instr) : Bool :=
  match i with
  | .undef op => isUndefinedOpcode op
  | .nop | .mtxMode _ | .mtxPush | .mtxPop _ | .mtxStore _ | .mtxRestore _ | .mtxIdentity => true
  | .mtxLoad4x4 _ | .mtxLoad4x3 _ | .mtxMult4x4 _ | .mtxMult4x3 _ | .mtxMult3x3 _ => true
  | .mtxScale _ _ _ | .mtxTrans _ _ _ => true
  | .color _ | .normal _ | .texcoord _ | .polygonAttr _ | .teximageParam _ | .plttBase _ => true
  | .vtx16 _ _ _ | .vtx10 _ _ _ | .vtxXy _ _ | .vtxXz _ _ | .vtxYz _ _ | .vtxDiff _ _ _ => true
  | .difAmb _ | .speEmi _ | .lightVector _ | .lightColor _ | .shininess _ => true
  | .beginVtxs _ | .endVtxs | .swapBuffers _ | .viewport _ => true
  | .boxTest _ _ _ | .posTest _ _ _ | .vecTest _ => true

end Sys2Proof
end

