-- ==== Sys2Proof/Decode.lean ====
section
/-! DEFINITION. The decoder and, after it, the encoder (spec/30_encoding.md; spec/20_memory.md R73). The opcode map of R96 is a
list of rows (opcode, arity, builder); R97 is the lookup in it. A command's parameter words follow the command word in the
stream (R91). -/

namespace Sys2Proof

/-- Why a piece of the stream is no whole command. -/
inductive DecodeError where
  /-- There is no command word to unpack. -/
  | noCommandWord
  /-- The opcode's parameter words have not all arrived (R91). -/
  | missingParameters (op : Byte)
deriving DecidableEq, Repr

/-- One row of the opcode map of R96: the opcode byte, the default arity, which is the number of words the command's rule reads, and
the command built from the parameter words. -/
structure OpRow where
  opcode : Byte
  arity : Nat
  build : List Word → Instr

/-- `P[k]` of R11, the k-th parameter word (the lookup below only asks for words that are there). -/
def param (P : List Word) (k : Nat) : Word := P.getD k 0

/-- The first `n` parameter words. -/
def paramVec (n : Nat) (P : List Word) : Vector Word n := Vector.ofFn fun k => param P k.val

/-- `w[lo+len-1 : lo]` of R10. -/
def bitField (w : Word) (lo len : Nat) : BitVec len := w.extractLsb' lo len

/-- Group 0 of R96. -/
def nopRows : List OpRow := [⟨0x00, 0, fun _ => .nop⟩]

/-- Group 1 of R96: the matrix commands. Fields: R172, R175 to R177, R179 to R185. -/
def matrixRows : List OpRow :=
  [ ⟨0x10, 1, fun P => .mtxMode (bitField (param P 0) 0 2)⟩,
    ⟨0x11, 0, fun _ => .mtxPush⟩,
    ⟨0x12, 1, fun P => .mtxPop (bitField (param P 0) 0 6)⟩,
    ⟨0x13, 1, fun P => .mtxStore (bitField (param P 0) 0 5)⟩,
    ⟨0x14, 1, fun P => .mtxRestore (bitField (param P 0) 0 5)⟩,
    ⟨0x15, 0, fun _ => .mtxIdentity⟩,
    ⟨0x16, 16, fun P => .mtxLoad4x4 (paramVec 16 P)⟩,
    ⟨0x17, 12, fun P => .mtxLoad4x3 (paramVec 12 P)⟩,
    ⟨0x18, 16, fun P => .mtxMult4x4 (paramVec 16 P)⟩,
    ⟨0x19, 12, fun P => .mtxMult4x3 (paramVec 12 P)⟩,
    ⟨0x1A, 9, fun P => .mtxMult3x3 (paramVec 9 P)⟩,
    ⟨0x1B, 3, fun P => .mtxScale (param P 0) (param P 1) (param P 2)⟩,
    ⟨0x1C, 3, fun P => .mtxTrans (param P 0) (param P 1) (param P 2)⟩ ]

/-- Group 2 of R96: the vertex and attribute commands. Fields: R212 to R217. -/
def vertexRows : List OpRow :=
  [ ⟨0x20, 1, fun P => .color (param P 0)⟩,
    ⟨0x21, 1, fun P => .normal (param P 0)⟩,
    ⟨0x22, 1, fun P => .texcoord (param P 0)⟩,
    ⟨0x23, 2, fun P => .vtx16 (bitField (param P 0) 0 16) (bitField (param P 0) 16 16) (bitField (param P 1) 0 16)⟩,
    ⟨0x24, 1, fun P => .vtx10 (bitField (param P 0) 0 10) (bitField (param P 0) 10 10) (bitField (param P 0) 20 10)⟩,
    ⟨0x25, 1, fun P => .vtxXy (bitField (param P 0) 0 16) (bitField (param P 0) 16 16)⟩,
    ⟨0x26, 1, fun P => .vtxXz (bitField (param P 0) 0 16) (bitField (param P 0) 16 16)⟩,
    ⟨0x27, 1, fun P => .vtxYz (bitField (param P 0) 0 16) (bitField (param P 0) 16 16)⟩,
    ⟨0x28, 1, fun P => .vtxDiff (bitField (param P 0) 0 10) (bitField (param P 0) 10 10) (bitField (param P 0) 20 10)⟩,
    ⟨0x29, 1, fun P => .polygonAttr (param P 0)⟩,
    ⟨0x2A, 1, fun P => .teximageParam (param P 0)⟩,
    ⟨0x2B, 1, fun P => .plttBase (param P 0)⟩ ]

/-- Group 3 of R96: the material and light commands. -/
def lightRows : List OpRow :=
  [ ⟨0x30, 1, fun P => .difAmb (param P 0)⟩,
    ⟨0x31, 1, fun P => .speEmi (param P 0)⟩,
    ⟨0x32, 1, fun P => .lightVector (param P 0)⟩,
    ⟨0x33, 1, fun P => .lightColor (param P 0)⟩,
    ⟨0x34, 32, fun P => .shininess (paramVec 32 P)⟩ ]

/-- Groups 4 to 7 of R96: primitive, frame, viewport and test commands. Fields: R241, R218. -/
def frameRows : List OpRow :=
  [ ⟨0x40, 1, fun P => .beginVtxs (bitField (param P 0) 0 2)⟩,
    ⟨0x41, 0, fun _ => .endVtxs⟩,
    ⟨0x50, 1, fun P => .swapBuffers (param P 0)⟩,
    ⟨0x60, 1, fun P => .viewport (param P 0)⟩,
    ⟨0x70, 3, fun P => .boxTest (param P 0) (param P 1) (param P 2)⟩,
    ⟨0x71, 2, fun P => .posTest (bitField (param P 0) 0 16) (bitField (param P 0) 16 16) (bitField (param P 1) 0 16)⟩,
    ⟨0x72, 1, fun P => .vecTest (param P 0)⟩ ]

/-- The opcode map of R96: 38 rows. -/
def opcodeRows : List OpRow := nopRows ++ matrixRows ++ vertexRows ++ lightRows ++ frameRows

/-- The catch-all row of R97 and R306: an opcode no other row matches has arity 0. -/
def undefRow (op : Byte) : OpRow := ⟨op, 0, fun _ => .undef op⟩

/-- The lookup of R97: the row of R96 whose opcode is `op`, on all 8 bits, else `UNDEF(op)`. -/
def opcodeRow (op : Byte) : OpRow := (opcodeRows.find? fun r => r.opcode == op).getD (undefRow op)

/-- `ARITY[op]` (R96, R144) of the default table. -/
def arity (op : Byte) : Nat := (opcodeRow op).arity

/-- The default of the parameter `ARITY` (R8, R96, D1) as data. -/
def defaultArity : ArityTable := opcodeRows.map fun r => (r.opcode, r.arity)

/-- The words a command's rule reads: `P`, and where it holds fewer than `n` words the missing ones from `free`. -/
def completeParams (n : Nat) (free : Nat → Word) (P : List Word) : List Word :=
  P ++ (List.range (n - P.length)).map free

/-- The command of opcode `op` with the parameter words `P` (R97). Words beyond those the command's rule reads are ignored; one that is
not there, because the arity table gives the opcode fewer than its rule reads, is a free word (notes/assumptions/14.md). -/
def commandOf (op : Byte) (free : Nat → Word) (P : List Word) : Instr :=
  (opcodeRow op).build (completeParams (opcodeRow op).arity free P)

/-- Decodes one command under the arity table `ar`: its opcode byte and the parameter words at the head of the stream. Answers the
command and the words left over; refuses when the opcode's parameters are not all there. -/
def decodeCommandBy (ar : Byte → Nat) (free : Nat → Word) (op : Byte) (P : List Word) :
    Except DecodeError (Instr × List Word) :=
  if P.length < ar op then .error (.missingParameters op)
  else .ok (commandOf op free (P.take (ar op)), P.drop (ar op))

/-- Decodes one command under the default arity table, which gives every command the words its rule reads. -/
def decodeCommand (op : Byte) (P : List Word) : Except DecodeError (Instr × List Word) :=
  decodeCommandBy arity Config.missingParam op P

/-- The four opcode bytes of a command word, least significant byte first (R73, R92). -/
def unpack (w : Word) : List Byte :=
  [w.extractLsb' 0 8, w.extractLsb' 8 8, w.extractLsb' 16 8, w.extractLsb' 24 8]

/-- Decodes the opcodes of one command word against the parameter words that follow it, under the arity table `ar`: all parameters
of the first opcode first, then all of the second, and so on (R91). -/
def decodeOpsBy (ar : Byte → Nat) (free : Nat → Word) : List Byte → List Word → Except DecodeError (List Instr × List Word)
  | [], P => .ok ([], P)
  | op :: ops, P =>
    match decodeCommandBy ar free op P with
    | .error e => .error e
    | .ok (i, P') =>
      match decodeOpsBy ar (fun k => free ((opcodeRow op).arity - ar op + k)) ops P' with
      | .error e => .error e
      | .ok (is, P'') => .ok (i :: is, P'')

/-- Decodes the opcodes of one command word under the default arity table. -/
def decodeOps (ops : List Byte) (P : List Word) : Except DecodeError (List Instr × List Word) :=
  decodeOpsBy arity Config.missingParam ops P

/-- Decodes one command word and its parameter words from the head of a stream of words. -/
def decodeStream : List Word → Except DecodeError (List Instr × List Word)
  | [] => .error .noCommandWord
  | w :: P => decodeOps (unpack w) P

/-! The encoder, written from the same tables. -/

/-- The opcode byte of a command (R96). -/
def Instr.opcode (i : Instr) : Byte :=
  match i with
  | .nop => 0x00
  | .mtxMode _ => 0x10
  | .mtxPush => 0x11
  | .mtxPop _ => 0x12
  | .mtxStore _ => 0x13
  | .mtxRestore _ => 0x14
  | .mtxIdentity => 0x15
  | .mtxLoad4x4 _ => 0x16
  | .mtxLoad4x3 _ => 0x17
  | .mtxMult4x4 _ => 0x18
  | .mtxMult4x3 _ => 0x19
  | .mtxMult3x3 _ => 0x1A
  | .mtxScale _ _ _ => 0x1B
  | .mtxTrans _ _ _ => 0x1C
  | .color _ => 0x20
  | .normal _ => 0x21
  | .texcoord _ => 0x22
  | .vtx16 _ _ _ => 0x23
  | .vtx10 _ _ _ => 0x24
  | .vtxXy _ _ => 0x25
  | .vtxXz _ _ => 0x26
  | .vtxYz _ _ => 0x27
  | .vtxDiff _ _ _ => 0x28
  | .polygonAttr _ => 0x29
  | .teximageParam _ => 0x2A
  | .plttBase _ => 0x2B
  | .difAmb _ => 0x30
  | .speEmi _ => 0x31
  | .lightVector _ => 0x32
  | .lightColor _ => 0x33
  | .shininess _ => 0x34
  | .beginVtxs _ => 0x40
  | .endVtxs => 0x41
  | .swapBuffers _ => 0x50
  | .viewport _ => 0x60
  | .boxTest _ _ _ => 0x70
  | .posTest _ _ _ => 0x71
  | .vecTest _ => 0x72
  | .undef op => op

/-- A word whose bits `lo + n - 1` to `lo` hold the field `v`, all others 0. -/
def placeField {n : Nat} (v : BitVec n) (lo : Nat) : Word := v.setWidth 32 <<< lo

/-- Two 16-bit fields in one parameter word: `a` at bits 15:0, `b` at bits 31:16 (R212, R214 to R216, R218). -/
def pack16 (a b : BitVec 16) : Word := placeField a 0 ||| placeField b 16

/-- Three 10-bit fields in one parameter word, at bits 9:0, 19:10 and 29:20; bits 31:30 are 0 (R213, R217). -/
def pack10 (x y z : BitVec 10) : Word := placeField x 0 ||| placeField y 10 ||| placeField z 20

/-- The parameter words of a command, ignored bits 0 (R94, R95). -/
def Instr.params (i : Instr) : List Word :=
  match i with
  | .nop | .mtxPush | .mtxIdentity | .endVtxs | .undef _ => []
  | .mtxMode m => [placeField m 0]
  | .mtxPop n => [placeField n 0]
  | .mtxStore i => [placeField i 0]
  | .mtxRestore i => [placeField i 0]
  | .mtxLoad4x4 a | .mtxMult4x4 a => a.toList
  | .mtxLoad4x3 a | .mtxMult4x3 a => a.toList
  | .mtxMult3x3 a => a.toList
  | .mtxScale x y z | .mtxTrans x y z | .boxTest x y z => [x, y, z]
  | .color p | .normal p | .texcoord p | .polygonAttr p | .teximageParam p | .plttBase p => [p]
  | .vtx16 x y z | .posTest x y z => [pack16 x y, pack16 z 0]
  | .vtx10 x y z | .vtxDiff x y z => [pack10 x y z]
  | .vtxXy a b | .vtxXz a b | .vtxYz a b => [pack16 a b]
  | .difAmb p | .speEmi p | .lightVector p | .lightColor p => [p]
  | .shininess p => p.toList
  | .beginVtxs t => [placeField t 0]
  | .swapBuffers p | .viewport p | .vecTest p => [p]

/-- A command word holding four opcode bytes, the first at bits 7:0 (R92; `.pack` of R101). -/
def packOps (op0 op1 op2 op3 : Byte) : Word :=
  placeField op0 0 ||| placeField op1 8 ||| placeField op2 16 ||| placeField op3 24

/-- The words of one unpacked command (R101): the command word `0x000000<op>`, then its parameter words. -/
def encode (i : Instr) : List Word := packOps i.opcode 0 0 0 :: i.params

/-- The words of four commands packed in one command word (R91, R92). -/
def encodePacked (i0 i1 i2 i3 : Instr) : List Word :=
  packOps i0.opcode i1.opcode i2.opcode i3.opcode :: (i0.params ++ i1.params ++ i2.params ++ i3.params)

/-! The instruction of one table row as a number (notes/assumptions/9.md): the first 32-bit word is the command word, whose low
byte is the row's opcode, and the parameter words count on from bit 32. -/

/-- The opcode byte: bits 7 to 0 of the first word. -/
def tableOpcode (w : Nat) : Byte := BitVec.ofNat 8 w

/-- The `n` parameter words, from bit 32 on. -/
def tableParams (n w : Nat) : List Word := (List.range n).map fun k => BitVec.ofNat 32 (w >>> (32 * (k + 1)))

/-- What the decoder reads from an instruction of `nbits` bits `w`, every bit from `nbits` on being 0. -/
def decodeTableWord (nbits w : Nat) : Option Instr :=
  let v := w % 2 ^ nbits
  let op := tableOpcode v
  match decodeCommand op (tableParams (arity op) v) with
  | .ok (i, _) => some i
  | .error _ => none

end Sys2Proof
end

