-- ==== Sys2Proof/Machine/Params.lean ====
section
/-! DEFINITION. The implementation parameters of spec/00_scope.md R8, their defaults, and the arithmetic of `NUM` they select. They are carried in
State so that the one `exec` and the one `step` run every configuration and a statement about every state quantifies over them; no
step changes them (notes/assumptions/23.md). -/

namespace Sys2Proof.Machine

/-- The parameter `NUM` of R8 (D7, U9): the arithmetic of matrices and coordinates. -/
inductive NumDomain where
  /-- R120: an ordered field with exact `+ - * /`. -/
  | exact
  /-- The numerics of another instantiation, a floating-point one for instance: the free values `Config.otherAdd` to
  `Config.otherOfInt` (notes/assumptions/3.md). -/
  | other
deriving DecidableEq, Repr

/-- A configuration of the block (R8), and at the end the treatment of U6. The constraints R8 and R151 put on it are
`ConfigInv` of Safety.lean. -/
structure Params where
  /-- `ARITY` (D1, U10). -/
  arity : ArityTable
  /-- `HALF_THRESHOLD` (R148). -/
  halfThreshold : Nat
  /-- `CMD_CAP` (D5, U7): a bound the command queue never reaches (R151). -/
  cmdCap : Nat
  /-- `PARAM_CAP` (D5, U7): a bound the parameter queue never reaches (R151). -/
  paramCap : Nat
  /-- `PROJ_STACK_DEPTH` (R174): the `proj_sp` from which a push sets `err` instead. -/
  projStackDepth : Nat
  /-- `PV_STACK_DEPTH` (R174): the `pv_sp` from which a push sets `err` instead. -/
  pvStackDepth : Nat
  /-- `PV_STACK_SLOTS` (R32): the slots of the shared stack, and the modulus of a pop (R175). -/
  pvStackSlots : Nat
  /-- `MAX_VTX` (D25, U12). -/
  maxVtx : Nat
  /-- `MAX_POLY` (D25, U12). -/
  maxPoly : Nat
  /-- `FB_W` (D25, U12): columns of the frame buffer. -/
  fbW : Nat
  /-- `FB_H` (D25, U12): rows of the frame buffer. -/
  fbH : Nat
  /-- `PIX_CLEAR` (D25, U12). -/
  pixClear : Pixel
  /-- `PIX_LINE` (D25, U12). -/
  pixLine : Pixel
  /-- `NUM` (D7, U9). -/
  num : NumDomain
  /-- `to_fix12` (D8). -/
  conversion : Fix12Conversion
  /-- `MUL_ORDER` (D10, U11). -/
  mulOrder : MulOrder
  /-- `FRAC_BITS` (R9, R121): the fraction bits of the fixed-point formats. -/
  fracBits : Nat
  /-- How the use of an `Unwritten` element is treated: `refuse` is the spec's (D32, U6), another value THE MODEL'S OWN
  (notes/assumptions/2.md). -/
  unwrittenUse : UnwrittenUse
deriving DecidableEq, Repr

/-- `ARITY[op]` (R144) of this configuration. -/
def Params.arityOf (p : Params) (op : Byte) : Nat := p.arity.get op

/-- The defaults of R8's table, with the treatment `refuse` of U6. -/
def Params.default : Params where
  arity := defaultArity
  halfThreshold := 128
  cmdCap := 256
  paramCap := 256
  projStackDepth := 1
  pvStackDepth := 31
  pvStackSlots := 32
  maxVtx := 6144
  maxPoly := 2048
  fbW := 256
  fbH := 192
  pixClear := 0
  pixLine := 1
  num := .exact
  conversion := .truncate
  mulOrder := .operandLeft
  fracBits := 12
  unwrittenUse := .refuse

/-! The arithmetic of `NUM` (R120): the one place where it is said. Another instantiation evaluates in the written order (D7, U9), so
the operations below are the only ones the model computes with; comparisons, `floor` and `trunc` are of the values as they are. -/

/-- `a + b` in `NUM`. -/
def NumDomain.add (k : NumDomain) (a b : NUM) : NUM :=
  match k with
  | .exact => a + b
  | .other => Config.otherAdd a b

/-- `a - b` in `NUM`. -/
def NumDomain.sub (k : NumDomain) (a b : NUM) : NUM :=
  match k with
  | .exact => a - b
  | .other => Config.otherSub a b

/-- `a x b` in `NUM`. -/
def NumDomain.mul (k : NumDomain) (a b : NUM) : NUM :=
  match k with
  | .exact => a * b
  | .other => Config.otherMul a b

/-- `a / b` in `NUM`, for `b /= 0`. -/
def NumDomain.div (k : NumDomain) (a b : NUM) : NUM :=
  match k with
  | .exact => a / b
  | .other => Config.otherDiv a b

/-- The integer `i` in `NUM`. -/
def NumDomain.ofInt (k : NumDomain) (i : Int) : NUM :=
  match k with
  | .exact => (i : NUM)
  | .other => Config.otherOfInt i

/-- `2 ^ FRAC_BITS` in `NUM` (R8, R121): the scale of the fixed-point formats. -/
def Params.fracScale (p : Params) : NUM := p.num.ofInt ((2 ^ p.fracBits : Nat) : Int)

end Sys2Proof.Machine
end

