-- ==== Sys2Proof/Machine/State.lean ====
section
/-! DEFINITION. The state of the block (spec/10_state.md), why a step can stop, and the state after reset
(spec/70_reset_and_hazards.md R370). -/

namespace Sys2Proof.Machine

/-- `MatrixMode` of R20: exactly three values. -/
inductive MatrixMode where
  | projection
  | position
  | positionAndVector
deriving DecidableEq, Repr

/-- `PrimitiveMode` of R20: exactly four values. -/
inductive PrimitiveMode where
  | triangles
  | quads
  | triangleStrip
  | quadStrip
deriving DecidableEq, Repr

/-- Four numbers `(x, y, z, w)`: a `Vertex` of R20, and one row of a matrix. -/
structure Vec4 where
  x : NUM
  y : NUM
  z : NUM
  w : NUM
deriving DecidableEq, Repr

/-- A `Matrix` of R20: 16 numbers, held as four rows. -/
structure Mat4 where
  r0 : Vec4
  r1 : Vec4
  r2 : Vec4
  r3 : Vec4
deriving DecidableEq, Repr

/-- A `Polygon` of R20: 3 or 4 indices into the Vertex Store, in drawing order. -/
inductive Polygon where
  | tri (a b c : Nat)
  | quad (a b c d : Nat)
deriving DecidableEq, Repr

/-- The frame buffer's grid of R38 as its list of rows, row 0 at the top, column 0 at the left. That there are `FB_H` rows of `FB_W`
pixels is `FrameInv` of Safety.lean. -/
abbrev Frame := List (List Pixel)

/-- `fb[y][x]` (R38). -/
def Frame.pixel (F : Frame) (y x : Nat) : Option Pixel := F[y]?.bind (·[x]?)

/-- A state element whose reset value the spec leaves unspecified (spec/10_state.md section 11). `val` is what it holds, at
reset a value the assumption log names; a command that reads the element computes with it (notes/assumptions/1.md). `written` is the
spec's own distinction (R20, R372): false while the element is `Unwritten`. A copy copies both (R186), a value computed from an
`Unwritten` element is `Unwritten` (R190 for `vec`), and the environment's read of one answers nothing
(notes/assumptions/2.md). -/
structure Reg (α : Type) where
  val : α
  written : Bool
deriving DecidableEq, Repr

/-- What the environment can do to the block that changes it (R14 a, b): one `submit(word)`, or a write of one of the two
enables. Reads (R14 c, d) change nothing and are the functions of Machine/Read.lean. -/
inductive Event where
  | submit (w : Word)
  | writeEnEmpty (b : Bool)
  | writeEnHalf (b : Bool)
deriving DecidableEq, Repr

/-- The whole state of the block: everything spec/10_state.md names, its configuration at the front, and three fields of the
model's own at the end. -/
structure State where
  /-- R8: the configuration, which no step changes. It is not state of the block (notes/assumptions/23.md). -/
  params : Params
  /-- R24: pending opcodes, oldest first. -/
  cmdq : List Byte
  /-- R25: pending parameter words, oldest first. -/
  paramq : List Word
  /-- R26: parameter words still required. -/
  owed : Nat
  /-- R27: the fill level. -/
  fill : Nat
  /-- R28. -/
  mode : Reg MatrixMode
  /-- R29: the current Projection matrix. -/
  proj : Reg Mat4
  /-- R29: the current Position matrix. -/
  pos : Reg Mat4
  /-- R29: the current Vector matrix. -/
  vec : Reg Mat4
  /-- R30: the composite clip matrix as of the last recomputation. -/
  clip : Reg Mat4
  /-- R31: `proj_stack[0]`, the one slot of the Projection stack. -/
  projStack : Reg Mat4
  /-- R31: 0 or 1. -/
  projSp : Fin 2
  /-- R32: the Position half of the shared stack, `PV_STACK_SLOTS` slots. -/
  posStack : List (Reg Mat4)
  /-- R32: the Vector half of the shared stack, `PV_STACK_SLOTS` slots. -/
  vecStack : List (Reg Mat4)
  /-- R32: the index of the next free slot, 0 to 31 with the default `PV_STACK_SLOTS`. -/
  pvSp : Nat
  /-- R33: the untransformed current vertex. -/
  cur : Reg Vec4
  /-- R34. -/
  prim : Reg PrimitiveMode
  /-- R35: the per-primitive vertex counter. -/
  cnt : Nat
  /-- R36: the Vertex Store, clip-space vertices in order of appending. -/
  vtx : List Vec4
  /-- R37: the Polygon Store. -/
  poly : List Polygon
  /-- R38: the frame buffer. -/
  fb : Reg Frame
  /-- R39: control input "empty enabled". -/
  enEmpty : Bool
  /-- R39: control input "half enabled". -/
  enHalf : Bool
  /-- R40: the published fill level. -/
  stFill : Nat
  /-- R40. -/
  stEmpty : Bool
  /-- R40: fewer than `HALF_THRESHOLD` units are queued (spec/90_conflicts.md C1). -/
  stHalf : Bool
  /-- R40: the interrupt-request output. -/
  irq : Bool
  /-- R41: the published `proj_sp`, 1 bit. -/
  stProjDepth : Fin 2
  /-- R41: the published `pv_sp`, 5 bits with the default `PV_STACK_SLOTS`. -/
  stPvDepth : Nat
  /-- R41: the sticky stack error flag. -/
  err : Bool
  /-- R42: `posmtx_result[0..15]`. -/
  posmtxResult : Reg (Vector Word 16)
  /-- R42: `vecmtx_result[0..15]`. -/
  vecmtxResult : Reg (Vector Word 16)
  /-- R42: `pos_result[0..3]`. -/
  posResult : Reg (Vector Word 4)
  /-- R42: the box-test flag. -/
  stBoxtest : Reg Bool
  /-- THE MODEL'S OWN: no vertex or polygon decision since the last swap read an `Unwritten` element: the `written` mark of the two
  stores, and of the frame the next swap makes of them (notes/assumptions/2.md). -/
  storeWritten : Bool
  /-- THE MODEL'S OWN: what the environment will do next, oldest first; a step takes the head (notes/assumptions/5.md). -/
  input : List Event
  /-- THE MODEL'S OWN: the number of the next draw of a free value (notes/assumptions/6.md, notes/assumptions/7.md). -/
  draws : Nat
deriving DecidableEq, Repr

/-- The block raises no synchronous exception and nothing stops it (spec/60_exceptions.md R330, R343): there is no fault. -/
inductive Fault
deriving DecidableEq, Repr

/-- Why a step has no next state. -/
inductive Refusal where
  /-- Raised by an arm of `exec` that has no meaning yet. Safe. No arm does. -/
  | notModelled (mnemonic : String)
  /-- Raised by MTX_MODE with field value 3, which spec/93_implementation_defined.md U1 treats as `refuse` (R172, R99). Safe. -/
  | reservedMatrixMode
  /-- Raised by a command that must compute with, or select by, an element that nothing has written since reset: the spec says that a
  model refuses it (R186, R190, R221, R372, D32, U6). Safe. Only under the model's own treatment `run` does no command raise it
  (notes/assumptions/2.md). -/
  | unwritten
deriving DecidableEq, Repr

/-- A register holding the reset value `v` the log names, marked `Unwritten`. -/
def Reg.unset {α : Type} (v : α) : Reg α := ⟨v, false⟩

/-- A register a command has written. -/
def Reg.of {α : Type} (v : α) : Reg α := ⟨v, true⟩

/-- A value computed from one register: `Unwritten` if the register is (for a snapshot of
`vec` see notes/assumptions/24.md). -/
def Reg.map {α β : Type} (f : α → β) (r : Reg α) : Reg β := ⟨f r.val, r.written⟩

/-- A value computed from two registers: `Unwritten` if one of them is. -/
def Reg.map₂ {α β γ : Type} (f : α → β → γ) (a : Reg α) (b : Reg β) : Reg γ := ⟨f a.val b.val, a.written && b.written⟩

/-- A value that arrives in a register because a selector had its value: `Unwritten` if the selector is (`c` false). -/
def Reg.selectedBy {α : Type} (c : Bool) (r : Reg α) : Reg α := ⟨r.val, r.written && c⟩

/-- The zero vector. -/
def Vec4.zero : Vec4 := ⟨0, 0, 0, 0⟩

/-- The zero matrix, the value a matrix holds at reset (DESIGN CHOICE, notes/assumptions/1.md). -/
def Mat4.zero : Mat4 := ⟨.zero, .zero, .zero, .zero⟩

/-- "clear the frame buffer" (R263): every pixel `PIX_CLEAR`. -/
def Frame.clear (p : Params) : Frame := List.replicate p.fbH (List.replicate p.fbW p.pixClear)

/-- Reset (R370, spec/10_state.md section 11) of a block with the configuration `p`. The elements the spec leaves unspecified hold
zero, `Projection`, `Triangles` or an all-`PIX_CLEAR` frame, marked unwritten (DESIGN CHOICE, notes/assumptions/1.md). -/
def State.resetWith (p : Params) : State where
  params := p
  cmdq := []
  paramq := []
  owed := 0
  fill := 0
  mode := .unset .projection
  proj := .unset .zero
  pos := .unset .zero
  vec := .unset .zero
  clip := .unset .zero
  projStack := .unset .zero
  projSp := 0
  posStack := List.replicate p.pvStackSlots (.unset .zero)
  vecStack := List.replicate p.pvStackSlots (.unset .zero)
  pvSp := 0
  cur := .unset .zero
  prim := .unset .triangles
  cnt := 0
  vtx := []
  poly := []
  fb := .unset (.clear p)
  enEmpty := false
  enHalf := false
  stFill := 0
  stEmpty := true
  stHalf := true
  irq := false
  stProjDepth := 0
  stPvDepth := 0
  err := false
  posmtxResult := .unset (Vector.replicate 16 0)
  vecmtxResult := .unset (Vector.replicate 16 0)
  posResult := .unset (Vector.replicate 4 0)
  stBoxtest := .unset false
  storeWritten := true
  input := []
  draws := 0

/-- Reset of the block with the default configuration (R8). -/
def State.reset : State := .resetWith .default

end Sys2Proof.Machine
end

