-- ==== Sys2Proof/Machine/Operands.lean ====
section
/-! DEFINITION. The operand forms (spec/30_encoding.md R95, spec/40_math.md R121, R123) and the small enumerations that fields
encode (spec/42_matrix.md R172, spec/44_polygon.md R241). -/

namespace Sys2Proof.Machine

/-- `sext_N` of R11. -/
def sext {n : Nat} (v : BitVec n) : Int := if v.toNat < 2 ^ (n - 1) then (v.toNat : Int) else (v.toNat : Int) - 2 ^ n

/-- The integer `i` at the scale of the fixed-point formats (R121, R123): `i / 2^FRAC_BITS`. -/
def scaledInt (p : Params) (i : Int) : NUM := p.num.div (p.num.ofInt i) p.fracScale

/-- `fix12(w) = sext_32(w) / 4096` (R121): the `fx32` form. -/
def fix12 (p : Params) (w : Word) : NUM := scaledInt p (sext w)

/-- `fx16(f) = sext_16(f) / 4096` (R123). -/
def fx16 (p : Params) (f : BitVec 16) : NUM := scaledInt p (sext f)

/-- `fx10(f) = (sext_10(f) x 64) / 4096` (R123): the field shifted left by 6 before scaling. -/
def fx10 (p : Params) (f : BitVec 10) : NUM := scaledInt p (sext f * 64)

/-- `dx10(f) = sext_10(f) / 4096` (R123): no shift. -/
def dx10 (p : Params) (f : BitVec 10) : NUM := scaledInt p (sext f)

/-- The mode field of MTX_MODE (R172): value 3 is reserved (U1). -/
def matrixModeOf (m : BitVec 2) : Option MatrixMode :=
  match m.toNat with
  | 0 => some .projection
  | 1 => some .position
  | 2 => some .positionAndVector
  | _ => none

/-- The primitive field of BEGIN_VTXS (R241): every value is legal. -/
def primitiveModeOf (t : BitVec 2) : PrimitiveMode :=
  match t.toNat with
  | 0 => .triangles
  | 1 => .quads
  | 2 => .triangleStrip
  | _ => .quadStrip

/-- The 5-bit slot index of MTX_STORE and MTX_RESTORE (R128): unsigned, 0 to 31. -/
def slotIndex (i : BitVec 5) : Nat := i.toNat

/-- The pop count of MTX_POP (R128, R175): signed 6 bits. -/
def popCount (n : BitVec 6) : Int := sext n

end Sys2Proof.Machine
end

