-- ==== Sys2Proof/Machine/Arith.lean ====
section
/-! DEFINITION. Matrix and vector arithmetic and the conversion back to fixed point (spec/40_math.md R122, R124 to R127). -/

namespace Sys2Proof.Machine

/-- Component `i` of a vector: x, y, z, w are 0 to 3 (R20). -/
def Vec4.get (v : Vec4) (i : Fin 4) : NUM :=
  match i with
  | 0 => v.x
  | 1 => v.y
  | 2 => v.z
  | 3 => v.w

/-- Row `r` of a matrix. -/
def Mat4.row (M : Mat4) (r : Fin 4) : Vec4 :=
  match r with
  | 0 => M.r0
  | 1 => M.r1
  | 2 => M.r2
  | 3 => M.r3

/-- `M[r][c]` of R11. -/
def Mat4.get (M : Mat4) (r c : Fin 4) : NUM := (M.row r).get c

/-- The vector with the components `f 0` to `f 3`. -/
def Vec4.ofFn (f : Fin 4 → NUM) : Vec4 := ⟨f 0, f 1, f 2, f 3⟩

/-- The matrix with `M[r][c] = f r c`. -/
def Mat4.ofFn (f : Fin 4 → Fin 4 → NUM) : Mat4 := ⟨.ofFn (f 0), .ofFn (f 1), .ofFn (f 2), .ofFn (f 3)⟩

/-- `a0 x b0 + a1 x b1 + a2 x b2 + a3 x b3` in the order written (R124, R125, D7). -/
def dot4 (k : NumDomain) (a b : Vec4) : NUM :=
  k.add (k.add (k.add (k.mul a.x b.x) (k.mul a.y b.y)) (k.mul a.z b.z)) (k.mul a.w b.w)

/-- Column `c` of a matrix. -/
def Mat4.col (M : Mat4) (c : Fin 4) : Vec4 := .ofFn fun r => M.get r c

/-- `matmul(A, B)` (R124). -/
def matmul (k : NumDomain) (A B : Mat4) : Mat4 := .ofFn fun r c => dot4 k (A.row r) (B.col c)

/-- `xform(M, v)` (R125): all four components. -/
def xform (k : NumDomain) (M : Mat4) (v : Vec4) : Vec4 := .ofFn fun r => dot4 k (M.row r) v

/-- `I4` (R126). -/
def identity4 : Mat4 := .ofFn fun r c => if r = c then 1 else 0

/-- `full44(a)` (R126): `M[r][c] = a[4c + r]`. -/
def full44 (a : Vector NUM 16) : Mat4 := .ofFn fun r c => a[4 * c.val + r.val]

/-- `affine43(a)` (R126): `M[r][c] = a[3c + r]` for r in 0 to 2, bottom row (0, 0, 0, 1). -/
def affine43 (a : Vector NUM 12) : Mat4 :=
  .ofFn fun r c => if h : r.val < 3 then a[3 * c.val + r.val] else if c = 3 then 1 else 0

/-- `affine33(a)` (R126): `M[r][c] = a[3c + r]` for r, c in 0 to 2, fourth row and column from `I4`. -/
def affine33 (a : Vector NUM 9) : Mat4 :=
  .ofFn fun r c => if h : r.val < 3 ∧ c.val < 3 then a[3 * c.val + r.val] else if r = c then 1 else 0

/-- `scale(sx, sy, sz)` (R126): the diagonal matrix. -/
def scaleMat (sx sy sz : NUM) : Mat4 := ⟨⟨sx, 0, 0, 0⟩, ⟨0, sy, 0, 0⟩, ⟨0, 0, sz, 0⟩, ⟨0, 0, 0, 1⟩⟩

/-- `translate(tx, ty, tz)` (R126): `I4` with column 3 = (tx, ty, tz, 1). -/
def translateMat (tx ty tz : NUM) : Mat4 := ⟨⟨1, 0, 0, tx⟩, ⟨0, 1, 0, ty⟩, ⟨0, 0, 1, tz⟩, ⟨0, 0, 0, 1⟩⟩

/-- `mul_into(C, M)` (R127) under the configured order: the new value of `C`. -/
def mulInto (p : Params) (M C : Mat4) : Mat4 :=
  match p.mulOrder with
  | .operandLeft => matmul p.num M C
  | .operandRight => matmul p.num C M

/-- `floor` of R11. -/
def floorNum (r : NUM) : Int := r.floor

/-- `trunc` of R11: toward zero. -/
def truncNum (r : NUM) : Int := if 0 ≤ r then floorNum r else -floorNum (-r)

/-- `to_fix12(r)` (R122): truncation toward zero of `r x 4096` in two's complement; out of the signed 32-bit range the word is
draw number `d`, a free value. -/
def toFix12 (p : Params) (d : Nat) (r : NUM) : Word :=
  let t := truncNum (p.num.mul r p.fracScale)
  if -2 ^ 31 ≤ t ∧ t ≤ 2 ^ 31 - 1 then BitVec.ofInt 32 t else Config.freeWord d

/-- The configured `to_fix12` (R8, R122). -/
def convert (p : Params) (d : Nat) (r : NUM) : Word :=
  match p.conversion with
  | .truncate => toFix12 p d r
  | .other => Config.otherFix12 r

/-- The fixed-point snapshot of a matrix (R42, R190): element `4c + r` is `to_fix12(M[r][c])`, a draw of its own for each
element, numbered from `d`. -/
def snapshot (p : Params) (d : Nat) (M : Mat4) : Vector Word 16 :=
  Vector.ofFn fun k => convert p (d + k.val) (M.get ⟨k.val % 4, by omega⟩ ⟨k.val / 4, by omega⟩)

/-- The fixed-point image of a vertex (R42, R218): x, y, z, w, a draw of its own for each, numbered from `d`. -/
def fixVertex (p : Params) (d : Nat) (v : Vec4) : Vector Word 4 := Vector.ofFn fun k => convert p (d + k.val) (v.get k)

end Sys2Proof.Machine
end

