-- ==== Sys2Proof/Machine/Flags.lean ====
section
/-! DEFINITION. Every status bit and how it is computed: the queue status and the interrupt request (spec/41_fifo.md R148, R149),
the published stack depths (spec/42_matrix.md R173), the sticky error flag (spec/10_state.md R41). -/

namespace Sys2Proof.Machine

/-- `st_empty` (R148). -/
def isEmptyLevel (fill : Nat) : Bool := fill == 0

/-- `st_half` (R148): fewer than `HALF_THRESHOLD` units. -/
def isHalfLevel (threshold fill : Nat) : Bool := fill < threshold

/-- `update_status()` (R148, R149): the only writer of the four fields, at the end of every submit, from the enables as they
are then. -/
def updateStatus (s : State) : State :=
  let e := isEmptyLevel s.fill
  let h := isHalfLevel s.params.halfThreshold s.fill
  { s with stFill := s.fill, stEmpty := e, stHalf := h, irq := (s.enEmpty && e) || (s.enHalf && h) }

/-- R173: the last action of every matrix command. -/
def publishDepths (s : State) : State := { s with stProjDepth := s.projSp, stPvDepth := s.pvSp }

/-- `err <- 1` (R331, R332): the one recorded soft error. It is what this block has in place of an exception: no state is saved
and control does not move (R330, R343). -/
def softError (s : State) : State := { s with err := true }

/-- `if c: err <- 1` (R175): the flag is sticky, so a false condition leaves it as it was. -/
def softErrorIf (c : Bool) (s : State) : State := { s with err := s.err || c }

end Sys2Proof.Machine
end

