-- ==== Sys2Proof/Machine/Ops.lean ====
section
/-! DEFINITION. The shared operations the meanings are made of: the matrices a command targets (spec/42_matrix.md R171), the two
matrix stacks (R174 to R177), the composite clip matrix (R190), and the vertex and polygon assemblers (spec/43_vertex.md R211,
spec/44_polygon.md R243 to R245). `ifReady` refuses a command that would compute with, or select by, an element nothing has written
since reset (R186, R190, R221, R372). The operations behind it are total all the same, and mark what they give `Unwritten` where an
operand is: copies need that (R186), and so does the model's own treatment `run` (notes/assumptions/2.md). The block takes no exception (spec/60_exceptions.md R330,
R343); its one soft error is `softError` of Flags.lean. -/

namespace Sys2Proof.Machine

/-- `mode` and the targets a multiply computes with are written (R186). -/
def targetsWritten (both : Bool) (s : State) : Bool :=
  s.mode.written &&
    match s.mode.val with
    | .projection => s.proj.written
    | .position => s.pos.written
    | .positionAndVector => s.pos.written && (!both || s.vec.written)

/-- The matrices `update_clip` computes with are written (R190). -/
def clipOperandsWritten (s : State) : Bool := s.proj.written && s.pos.written

/-- What every vertex command reads is written (R221). -/
def vertexReady (s : State) : Bool := s.clip.written && s.prim.written

/-- What a vertex command that builds on the accumulator reads is written (R221). -/
def relativeVertexReady (s : State) : Bool := vertexReady s && s.cur.written

/-- A command whose elements are `ready` has the next state `t`; one whose elements are not is refused (R186, R190, R221, R372, D32,
U6). Under the model's own treatment `run` it has the next state too (notes/assumptions/2.md). -/
def ifReady (ready : Bool) (s t : State) : Host.Outcome State Fault Refusal :=
  match ready, s.params.unwrittenUse with
  | true, _ => .next t
  | false, .run => .next t
  | false, .refuse => .refused .unwritten

/-- Rewrites the current matrix or matrices that `mode` selects. `both` says whether `PositionAndVector` reaches `vec` too: the
first two rows of R171's table do, the third row (scale and translate) does not. What an `Unwritten` mode selects is marked
`Unwritten`. -/
def mapTargets (both : Bool) (f : Reg Mat4 → Reg Mat4) (s : State) : State :=
  let g (C : Reg Mat4) : Reg Mat4 := (f C).selectedBy s.mode.written
  match s.mode.val with
  | .projection => { s with proj := g s.proj }
  | .position => { s with pos := g s.pos }
  | .positionAndVector => { s with pos := g s.pos, vec := if both then g s.vec else s.vec }

/-- `T <- M` for each target of R171's first row. -/
def loadTargets (M : Mat4) (s : State) : State := mapTargets true (fun _ => .of M) s

/-- `mul_into(T, M)` for each target of R171's second row. -/
def mulTargets (M : Mat4) (s : State) : State := mapTargets true (Reg.map (mulInto s.params M)) s

/-- `mul_into(T, M)` for each target of R171's third row: `vec` is left as it is. -/
def mulPosTargets (M : Mat4) (s : State) : State := mapTargets false (Reg.map (mulInto s.params M)) s

/-- Slot `i` of one half of the shared stack. A slot the configured `PV_STACK_SLOTS` leaves out reads as a free value, numbered from
`h` (notes/assumptions/14.md). -/
def stackSlot (stack : List (Reg Mat4)) (h i : Nat) : Reg Mat4 :=
  stack.getD i (.unset (.ofFn fun r c => Config.missingSlot i (h + 4 * c.val + r.val)))

/-- `pos_stack[i]` (R32). -/
def posSlot (s : State) (i : Nat) : Reg Mat4 := stackSlot s.posStack 0 i

/-- `vec_stack[i]` (R32). -/
def vecSlot (s : State) (i : Nat) : Reg Mat4 := stackSlot s.vecStack 16 i

/-- Copies the current Position and Vector matrices into shared slot `i` (R79: always the pair). -/
def saveSlot (i : Nat) (s : State) : State :=
  { s with
    posStack := s.posStack.set i (s.pos.selectedBy s.mode.written)
    vecStack := s.vecStack.set i (s.vec.selectedBy s.mode.written) }

/-- Copies shared slot `i` into the current Position and Vector matrices (R79). -/
def loadSlot (i : Nat) (s : State) : State :=
  { s with pos := (posSlot s i).selectedBy s.mode.written, vec := (vecSlot s i).selectedBy s.mode.written }

/-- Copies the current Projection matrix into the Projection slot. -/
def saveProjection (s : State) : State := { s with projStack := s.proj.selectedBy s.mode.written }

/-- Copies the Projection slot into the current Projection matrix. -/
def loadProjection (s : State) : State := { s with proj := s.projStack.selectedBy s.mode.written }

/-- The push of R174: at full depth `err <- 1` and nothing else; the pointer moves only when it is below the depth (R128). -/
def pushCurrent (s : State) : State :=
  match s.mode.val with
  | .projection =>
    if s.params.projStackDepth ≤ s.projSp.val then softError s else { saveProjection s with projSp := 1 }
  | .position | .positionAndVector =>
    if s.params.pvStackDepth ≤ s.pvSp then softError s else { saveSlot s.pvSp s with pvSp := s.pvSp + 1 }

/-- `t mod 32` of R11, the mathematical remainder, for the configured number of slots. -/
def wrapSlot (p : Params) (t : Int) : Nat := (t % (p.pvStackSlots : Int)).toNat

/-- The pop of R175: it moves the pointer (wrapped) and loads the slot in every case; outside the slots, by default 0 to 31, it also
sets `err` (R342: range check, `err`, then wrap and load). -/
def popCurrent (n : Int) (s : State) : State :=
  match s.mode.val with
  | .projection => loadProjection { softErrorIf (s.projSp.val = 0) s with projSp := 0 }
  | .position | .positionAndVector =>
    let t := (s.pvSp : Int) - n
    let i := wrapSlot s.params t
    loadSlot i { softErrorIf (t < 0 ∨ (s.params.pvStackSlots : Int) ≤ t) s with pvSp := i }

/-- The store of R176: in Projection mode the index is ignored; the pointers do not move. -/
def storeCurrent (i : Nat) (s : State) : State :=
  match s.mode.val with
  | .projection => saveProjection s
  | .position | .positionAndVector => saveSlot i s

/-- The restore of R177: in Projection mode the index is ignored; the pointers do not move. -/
def restoreCurrent (i : Nat) (s : State) : State :=
  match s.mode.val with
  | .projection => loadProjection s
  | .position | .positionAndVector => loadSlot i s

/-- `update_clip()` (R190): the composite clip matrix and the two snapshots, each `Unwritten` if what it is computed from is. The 32
snapshot elements have draws of their own. An `Unwritten` `vec` leaves a `vecmtx_result` that nothing has written `Unwritten`, as R190
says; one that an earlier snapshot has written loses its mark: DESIGN CHOICE, the spec leaves that case open
(notes/assumptions/24.md). -/
def updateClip (s : State) : State :=
  { s with
    clip := Reg.map₂ (matmul s.params.num) s.proj s.pos
    posmtxResult := s.pos.map (snapshot s.params s.draws)
    vecmtxResult := s.vec.map (snapshot s.params (s.draws + 16))
    draws := s.draws + 32 }

/-- R243's table: which of the newest vertices make a polygon, as offsets back from the newest (0 = newest), when `c` vertices
of the primitive have been counted. -/
def polygonOffsets (prim : PrimitiveMode) (c : Nat) : Option Polygon :=
  match prim with
  | .triangles => if c % 3 = 0 then some (.tri 2 1 0) else none
  | .quads => if c % 4 = 0 then some (.quad 3 2 1 0) else none
  | .triangleStrip => if 3 ≤ c then (if c % 2 = 1 then some (.tri 2 1 0) else some (.tri 1 2 0)) else none
  | .quadStrip => if 4 ≤ c ∧ c % 2 = 0 then some (.quad 1 3 2 0) else none

/-- The store index of the vertex `k` back from the newest of `n` (R243); none before the start of the store (R244). -/
def storeIndex (n k : Nat) : Option Nat := if k < n then some (n - 1 - k) else none

/-- A polygon of offsets as a polygon of store indices; none if any index would be negative (R244). -/
def resolvePolygon (n : Nat) (p : Polygon) : Option Polygon :=
  match p with
  | .tri a b c => do return .tri (← storeIndex n a) (← storeIndex n b) (← storeIndex n c)
  | .quad a b c d => do return .quad (← storeIndex n a) (← storeIndex n b) (← storeIndex n c) (← storeIndex n d)

/-- `emit(p)` (R245): past `MAX_POLY` the append is a no-op. -/
def emitPolygon (p : Polygon) (s : State) : State :=
  if s.poly.length < s.params.maxPoly then { s with poly := s.poly ++ [p] } else s

/-- `assemble()` (R243 to R245), after the vertex has been appended and counted. -/
def assemble (s : State) : State :=
  match (polygonOffsets s.prim.val s.cnt).bind (resolvePolygon s.vtx.length) with
  | some p => emitPolygon p s
  | none => s

/-- The mark of the stores once another vertex is in them: what `add_vtx` and the assembler read is written (R221). -/
def storeMark (s : State) : Bool := s.storeWritten && s.clip.written && s.prim.written && s.cur.written

/-- `add_vtx()` (R211): past `MAX_VTX` the vertex is dropped and nothing else happens (R219). A vertex made from, or assembled by, an
`Unwritten` element marks the stores. -/
def addVtx (s : State) : State :=
  if s.params.maxVtx ≤ s.vtx.length then s
  else assemble { s with
    vtx := s.vtx ++ [xform s.params.num s.clip.val s.cur.val]
    cnt := s.cnt + 1
    storeWritten := storeMark s }

/-- R290: a command that consumes its parameters through the queue and writes no state element. -/
def arityOnly (s : State) : State := s

end Sys2Proof.Machine
end

