-- ==== Sys2Proof/Machine/Matrix.lean ====
section
/-! DEFINITION. The meanings of the matrix commands (spec/42_matrix.md). Each ends with the status update of R173. -/

namespace Sys2Proof.Machine

/-- MTX_MODE (R172). Field value 3 is reserved and refused (U1). -/
def execMtxMode (m : BitVec 2) (s : State) : Host.Outcome State Fault Refusal :=
  match matrixModeOf m with
  | some v => .next (publishDepths { s with mode := .of v })
  | none => .refused .reservedMatrixMode

/-- MTX_PUSH (R174). -/
def execMtxPush (s : State) : Host.Outcome State Fault Refusal :=
  ifReady s.mode.written s (publishDepths (pushCurrent s))

/-- MTX_POP (R175). -/
def execMtxPop (n : BitVec 6) (s : State) : Host.Outcome State Fault Refusal :=
  ifReady s.mode.written s (publishDepths (popCurrent (popCount n) s))

/-- MTX_STORE (R176). -/
def execMtxStore (i : BitVec 5) (s : State) : Host.Outcome State Fault Refusal :=
  ifReady s.mode.written s (publishDepths (storeCurrent (slotIndex i) s))

/-- MTX_RESTORE (R177). -/
def execMtxRestore (i : BitVec 5) (s : State) : Host.Outcome State Fault Refusal :=
  ifReady s.mode.written s (publishDepths (restoreCurrent (slotIndex i) s))

/-- MTX_IDENTITY (R178). -/
def execMtxIdentity (s : State) : Host.Outcome State Fault Refusal :=
  ifReady s.mode.written s (publishDepths (loadTargets identity4 s))

/-- MTX_LOAD_4x4 (R179). -/
def execMtxLoad4x4 (a : Vector Word 16) (s : State) : Host.Outcome State Fault Refusal :=
  ifReady s.mode.written s (publishDepths (loadTargets (full44 (a.map (fix12 s.params))) s))

/-- MTX_LOAD_4x3 (R180). -/
def execMtxLoad4x3 (a : Vector Word 12) (s : State) : Host.Outcome State Fault Refusal :=
  ifReady s.mode.written s (publishDepths (loadTargets (affine43 (a.map (fix12 s.params))) s))

/-- MTX_MULT_4x4 (R181). -/
def execMtxMult4x4 (a : Vector Word 16) (s : State) : Host.Outcome State Fault Refusal :=
  ifReady (targetsWritten true s) s (publishDepths (mulTargets (full44 (a.map (fix12 s.params))) s))

/-- MTX_MULT_4x3 (R182). -/
def execMtxMult4x3 (a : Vector Word 12) (s : State) : Host.Outcome State Fault Refusal :=
  ifReady (targetsWritten true s) s (publishDepths (mulTargets (affine43 (a.map (fix12 s.params))) s))

/-- MTX_MULT_3x3 (R183). -/
def execMtxMult3x3 (a : Vector Word 9) (s : State) : Host.Outcome State Fault Refusal :=
  ifReady (targetsWritten true s) s (publishDepths (mulTargets (affine33 (a.map (fix12 s.params))) s))

/-- MTX_SCALE (R184). -/
def execMtxScale (sx sy sz : Word) (s : State) : Host.Outcome State Fault Refusal :=
  ifReady (targetsWritten false s) s
    (publishDepths (mulPosTargets (scaleMat (fix12 s.params sx) (fix12 s.params sy) (fix12 s.params sz)) s))

/-- MTX_TRANS (R185). -/
def execMtxTrans (tx ty tz : Word) (s : State) : Host.Outcome State Fault Refusal :=
  ifReady (targetsWritten false s) s
    (publishDepths (mulPosTargets (translateMat (fix12 s.params tx) (fix12 s.params ty) (fix12 s.params tz)) s))

end Sys2Proof.Machine
end

