-- ==== Sys2Proof/Machine/Other.lean ====
section
/-! DEFINITION. The commands that only consume their parameters, the box test, and the undefined opcodes (spec/46_other.md). -/

namespace Sys2Proof.Machine

/-- NOP (R291). -/
def execNop (s : State) : Host.Outcome State Fault Refusal := .next s

/-- COLOR (R292). -/
def execColor (_p : Word) (s : State) : Host.Outcome State Fault Refusal := .next (arityOnly s)

/-- NORMAL (R293): `vec` is not read. -/
def execNormal (_p : Word) (s : State) : Host.Outcome State Fault Refusal := .next (arityOnly s)

/-- TEXCOORD (R294). -/
def execTexcoord (_p : Word) (s : State) : Host.Outcome State Fault Refusal := .next (arityOnly s)

/-- POLYGON_ATTR (R295). -/
def execPolygonAttr (_p : Word) (s : State) : Host.Outcome State Fault Refusal := .next (arityOnly s)

/-- TEXIMAGE_PARAM (R296). -/
def execTeximageParam (_p : Word) (s : State) : Host.Outcome State Fault Refusal := .next (arityOnly s)

/-- PLTT_BASE (R297). -/
def execPlttBase (_p : Word) (s : State) : Host.Outcome State Fault Refusal := .next (arityOnly s)

/-- DIF_AMB (R298). -/
def execDifAmb (_p : Word) (s : State) : Host.Outcome State Fault Refusal := .next (arityOnly s)

/-- SPE_EMI (R299). -/
def execSpeEmi (_p : Word) (s : State) : Host.Outcome State Fault Refusal := .next (arityOnly s)

/-- LIGHT_VECTOR (R300): `vec` is not read. -/
def execLightVector (_p : Word) (s : State) : Host.Outcome State Fault Refusal := .next (arityOnly s)

/-- LIGHT_COLOR (R301). -/
def execLightColor (_p : Word) (s : State) : Host.Outcome State Fault Refusal := .next (arityOnly s)

/-- SHININESS (R302). -/
def execShininess (_p : Vector Word 32) (s : State) : Host.Outcome State Fault Refusal := .next (arityOnly s)

/-- VIEWPORT (R303): the screen mapping of R265 always uses the whole frame. -/
def execViewport (_p : Word) (s : State) : Host.Outcome State Fault Refusal := .next (arityOnly s)

/-- VEC_TEST (R304): the block has no vector-test result. -/
def execVecTest (_p : Word) (s : State) : Host.Outcome State Fault Refusal := .next (arityOnly s)

/-- BOX_TEST (R305): `st_boxtest <- draw Bit`, a free value, and nothing else. -/
def execBoxTest (_p0 _p1 _p2 : Word) (s : State) : Host.Outcome State Fault Refusal :=
  .next { s with stBoxtest := .of (Config.freeBit s.draws), draws := s.draws + 1 }

/-- UNDEF(op) (R306): silently ignored, no error flag. -/
def execUndef (_op : Byte) (s : State) : Host.Outcome State Fault Refusal := .next (arityOnly s)

end Sys2Proof.Machine
end

