-- ==== Sys2Proof/Machine/Primitive.lean ====
section
/-! DEFINITION. The meanings of primitive begin and end (spec/44_polygon.md). -/

namespace Sys2Proof.Machine

/-- BEGIN_VTXS (R241): primitive mode, counter to 0, `update_clip`. -/
def execBeginVtxs (t : BitVec 2) (s : State) : Host.Outcome State Fault Refusal :=
  ifReady (clipOperandsWritten s) s (updateClip { s with prim := .of (primitiveModeOf t), cnt := 0 })

/-- END_VTXS (R242): a no-op marker. -/
def execEndVtxs (s : State) : Host.Outcome State Fault Refusal := .next s

end Sys2Proof.Machine
end

