-- ==== Sys2Proof/Machine/Render.lean ====
section
/-! DEFINITION. SWAP_BUFFERS and the wireframe render pass (spec/45_render.md). -/

namespace Sys2Proof.Machine

/-- A screen position (R265): column and row, unbounded integers (R128). -/
structure Point where
  x : Int
  y : Int
deriving DecidableEq, Repr

/-- `to_screen(v)` (R265), for `v.w /= 0`, evaluated in the order written. -/
def toScreen (p : Params) (v : Vec4) : Point :=
  let k := p.num
  ⟨floorNum (k.div (k.mul (k.add (k.div v.x v.w) 1) (k.ofInt p.fbW)) 2),
    floorNum (k.div (k.mul (k.sub 1 (k.div v.y v.w)) (k.ofInt p.fbH)) 2)⟩

/-- `outside` (R266). -/
def Point.outside (p : Params) (a : Point) : Bool := a.x < 0 || (p.fbW : Int) ≤ a.x || a.y < 0 || (p.fbH : Int) ≤ a.y

/-- `plot(F, x, y)` (R270): the per-pixel bounds check. -/
def plot (p : Params) (F : Frame) (a : Point) : Frame :=
  if 0 ≤ a.x ∧ a.x < p.fbW ∧ 0 ≤ a.y ∧ a.y < p.fbH then F.modify a.y.toNat (·.set a.x.toNat p.pixLine) else F

/-- `floor(start + i x slope)` (R269): the minor coordinate of step `i`. -/
def minorCoordinate (k : NumDomain) (start i : Int) (slope : NUM) : Int :=
  floorNum (k.add (k.ofInt start) (k.mul (k.ofInt i) slope))

/-- The x-major branch of R269 from `a` to `b` with `a.x < b.x`: one pixel for each column of the screen that the edge spans
(R270: the pixel set intersected with the screen; columns off the screen plot nothing). -/
def walkX (p : Params) (a b : Point) : List Point :=
  let m := p.num.div (p.num.ofInt (b.y - a.y)) (p.num.ofInt (b.x - a.x))
  (List.range p.fbW).filterMap fun (c : Nat) =>
    if a.x ≤ (c : Int) ∧ (c : Int) ≤ b.x then some ⟨(c : Int), minorCoordinate p.num a.y (c - a.x) m⟩ else none

/-- The y-major branch of R269 from `a` to `b` with `a.y < b.y`: one pixel for each row of the screen that the edge spans. -/
def walkY (p : Params) (a b : Point) : List Point :=
  let r := p.num.div (p.num.ofInt (b.x - a.x)) (p.num.ofInt (b.y - a.y))
  (List.range p.fbH).filterMap fun (c : Nat) =>
    if a.y ≤ (c : Int) ∧ (c : Int) ≤ b.y then some ⟨minorCoordinate p.num a.x (c - a.y) r, (c : Int)⟩ else none

/-- The pixels of `walk(F, a, b)` (R269), `a` and `b` distinct: the major axis by slope magnitude, a tie to x. -/
def walk (p : Params) (a b : Point) : List Point :=
  if (b.y - a.y).natAbs ≤ (b.x - a.x).natAbs then
    if b.x < a.x then walkX p b a else walkX p a b
  else
    if b.y < a.y then walkY p b a else walkY p a b

/-- The pixels `draw_edge` (R266) tries to plot: none for a zero `w` (R268), for two endpoints outside (R271), or for a
zero-length edge (R267). -/
def edgePixels (p : Params) (va vb : Vec4) : List Point :=
  if va.w = 0 ∨ vb.w = 0 then []
  else
    let a := toScreen p va
    let b := toScreen p vb
    if a.outside p && b.outside p then []
    else if a = b then []
    else walk p a b

/-- `draw_edge(F, va, vb)` (R266). -/
def drawEdge (p : Params) (F : Frame) (va vb : Vec4) : Frame := (edgePixels p va vb).foldl (plot p) F

/-- The edges of a polygon (R264): cyclically consecutive entries of its index list. -/
def Polygon.edges (p : Polygon) : List (Nat × Nat) :=
  match p with
  | .tri a b c => [(a, b), (b, c), (c, a)]
  | .quad a b c d => [(a, b), (b, c), (c, d), (d, a)]

/-- One edge of a stored polygon. An index outside the store draws nothing; no state that meets the store invariant holds one
(R37). -/
def drawIndexedEdge (p : Params) (vtx : List Vec4) (F : Frame) (e : Nat × Nat) : Frame :=
  match vtx[e.1]?, vtx[e.2]? with
  | some va, some vb => drawEdge p F va vb
  | _, _ => F

/-- `render_pass(vtx, poly)` (R263). -/
def renderPass (p : Params) (vtx : List Vec4) (poly : List Polygon) : Frame :=
  poly.foldl (fun F q => q.edges.foldl (drawIndexedEdge p vtx) F) (Frame.clear p)

/-- SWAP_BUFFERS (R260 to R262): the parameter is ignored; the frame buffer is replaced and both stores are emptied. A frame of stores
that are `Unwritten` is `Unwritten`. -/
def execSwapBuffers (_p : Word) (s : State) : Host.Outcome State Fault Refusal :=
  .next { s with
    fb := ⟨renderPass s.params s.vtx s.poly, s.storeWritten⟩
    vtx := []
    poly := []
    storeWritten := true }

end Sys2Proof.Machine
end

