-- ==== Sys2Proof/Machine/Vertex.lean ====
section
/-! DEFINITION. The meanings of the vertex commands and of the position test (spec/43_vertex.md). -/

namespace Sys2Proof.Machine

/-- VTX_16 (R212): all of `cur` is written. -/
def execVtx16 (x y z : BitVec 16) (s : State) : Host.Outcome State Fault Refusal :=
  ifReady (vertexReady s) s (addVtx { s with cur := .of ⟨fx16 s.params x, fx16 s.params y, fx16 s.params z, 1⟩ })

/-- VTX_10 (R213): all of `cur` is written. -/
def execVtx10 (x y z : BitVec 10) (s : State) : Host.Outcome State Fault Refusal :=
  ifReady (vertexReady s) s (addVtx { s with cur := .of ⟨fx10 s.params x, fx10 s.params y, fx10 s.params z, 1⟩ })

/-- VTX_XY (R214): z is kept. -/
def execVtxXy (x y : BitVec 16) (s : State) : Host.Outcome State Fault Refusal :=
  ifReady (relativeVertexReady s) s (addVtx { s with cur := s.cur.map fun v => ⟨fx16 s.params x, fx16 s.params y, v.z, 1⟩ })

/-- VTX_XZ (R215): y is kept. -/
def execVtxXz (x z : BitVec 16) (s : State) : Host.Outcome State Fault Refusal :=
  ifReady (relativeVertexReady s) s (addVtx { s with cur := s.cur.map fun v => ⟨fx16 s.params x, v.y, fx16 s.params z, 1⟩ })

/-- VTX_YZ (R216): x is kept. -/
def execVtxYz (y z : BitVec 16) (s : State) : Host.Outcome State Fault Refusal :=
  ifReady (relativeVertexReady s) s (addVtx { s with cur := s.cur.map fun v => ⟨v.x, fx16 s.params y, fx16 s.params z, 1⟩ })

/-- VTX_DIFF (R217, R220): sums in `NUM` without wrap, w unchanged. -/
def execVtxDiff (dx dy dz : BitVec 10) (s : State) : Host.Outcome State Fault Refusal :=
  let k := s.params.num
  ifReady (relativeVertexReady s) s (addVtx { s with cur := s.cur.map fun v =>
    ⟨k.add v.x (dx10 s.params dx), k.add v.y (dx10 s.params dy), k.add v.z (dx10 s.params dz), v.w⟩ })

/-- POS_TEST (R218): `clip` is recomputed first, `cur` is overwritten, nothing is stored or counted. -/
def execPosTest (x y z : BitVec 16) (s : State) : Host.Outcome State Fault Refusal :=
  let u := updateClip s
  let v : Vec4 := ⟨fx16 s.params x, fx16 s.params y, fx16 s.params z, 1⟩
  ifReady (clipOperandsWritten s) s { u with
    cur := .of v
    posResult := u.clip.map fun M => fixVertex u.params u.draws (xform u.params.num M v)
    draws := u.draws + 4 }

end Sys2Proof.Machine
end

