-- ==== Sys2Proof/Machine/Dispatch.lean ====
section
/-! DEFINITION. `execute(op, P)` (spec/41_fifo.md R153): one arm per command. -/

namespace Sys2Proof.Machine

def exec (i : Instr) (s : State) : Host.Outcome State Fault Refusal :=
  match i with
  | .nop => Sys2Proof.Machine.execNop s
  | .mtxMode m => Sys2Proof.Machine.execMtxMode m s
  | .mtxPush => Sys2Proof.Machine.execMtxPush s
  | .mtxPop n => Sys2Proof.Machine.execMtxPop n s
  | .mtxStore k => Sys2Proof.Machine.execMtxStore k s
  | .mtxRestore k => Sys2Proof.Machine.execMtxRestore k s
  | .mtxIdentity => Sys2Proof.Machine.execMtxIdentity s
  | .mtxLoad4x4 a => Sys2Proof.Machine.execMtxLoad4x4 a s
  | .mtxLoad4x3 a => Sys2Proof.Machine.execMtxLoad4x3 a s
  | .mtxMult4x4 a => Sys2Proof.Machine.execMtxMult4x4 a s
  | .mtxMult4x3 a => Sys2Proof.Machine.execMtxMult4x3 a s
  | .mtxMult3x3 a => Sys2Proof.Machine.execMtxMult3x3 a s
  | .mtxScale sx sy sz => Sys2Proof.Machine.execMtxScale sx sy sz s
  | .mtxTrans tx ty tz => Sys2Proof.Machine.execMtxTrans tx ty tz s
  | .color p => Sys2Proof.Machine.execColor p s
  | .normal p => Sys2Proof.Machine.execNormal p s
  | .texcoord p => Sys2Proof.Machine.execTexcoord p s
  | .vtx16 x y z => Sys2Proof.Machine.execVtx16 x y z s
  | .vtx10 x y z => Sys2Proof.Machine.execVtx10 x y z s
  | .vtxXy x y => Sys2Proof.Machine.execVtxXy x y s
  | .vtxXz x z => Sys2Proof.Machine.execVtxXz x z s
  | .vtxYz y z => Sys2Proof.Machine.execVtxYz y z s
  | .vtxDiff dx dy dz => Sys2Proof.Machine.execVtxDiff dx dy dz s
  | .polygonAttr p => Sys2Proof.Machine.execPolygonAttr p s
  | .teximageParam p => Sys2Proof.Machine.execTeximageParam p s
  | .plttBase p => Sys2Proof.Machine.execPlttBase p s
  | .difAmb p => Sys2Proof.Machine.execDifAmb p s
  | .speEmi p => Sys2Proof.Machine.execSpeEmi p s
  | .lightVector p => Sys2Proof.Machine.execLightVector p s
  | .lightColor p => Sys2Proof.Machine.execLightColor p s
  | .shininess p => Sys2Proof.Machine.execShininess p s
  | .beginVtxs t => Sys2Proof.Machine.execBeginVtxs t s
  | .endVtxs => Sys2Proof.Machine.execEndVtxs s
  | .swapBuffers p => Sys2Proof.Machine.execSwapBuffers p s
  | .viewport p => Sys2Proof.Machine.execViewport p s
  | .boxTest p0 p1 p2 => Sys2Proof.Machine.execBoxTest p0 p1 p2 s
  | .posTest x y z => Sys2Proof.Machine.execPosTest x y z s
  | .vecTest p => Sys2Proof.Machine.execVecTest p s
  | .undef op => Sys2Proof.Machine.execUndef op s

end Sys2Proof.Machine
end

