-- ==== Sys2Proof/Machine/Fifo.lean ====
section
/-! DEFINITION. The command/parameter FIFO and the one step of the block, `submit(word)` (spec/41_fifo.md R141 to R149). -/

namespace Sys2Proof.Machine

/-- Goes on with the next state; a fault or a refusal stops. -/
def andThen (o : Host.Outcome State Fault Refusal) (f : State → Host.Outcome State Fault Refusal) :
    Host.Outcome State Fault Refusal :=
  match o with
  | .next s => f s
  | .fault r => .fault r
  | .refused r => .refused r

/-- One opcode of the command phase (R142). -/
def enqueueOp (s : State) (op : Byte) : State :=
  { s with
    cmdq := s.cmdq ++ [op]
    owed := s.owed + s.params.arityOf op
    fill := if s.params.arityOf op = 0 then s.fill + 1 else s.fill }

/-- `command_phase(word)` (R142): four opcodes, least significant byte first. -/
def commandPhase (w : Word) (s : State) : State := (unpack w).foldl enqueueOp s

/-- `parameter_phase(word)` (R143): the whole word is one parameter. -/
def parameterPhase (w : Word) (s : State) : State :=
  { s with paramq := s.paramq ++ [w], owed := s.owed - 1, fill := s.fill + 1 }

/-- `remove_head(n)` (R147). -/
def removeHead (n : Nat) (s : State) : State :=
  { s with cmdq := s.cmdq.tail, paramq := s.paramq.drop n, fill := s.fill - max 1 n }

/-- `P` of R146: the first `n` words of the parameter queue. -/
def headParams (n : Nat) (s : State) : List Word := s.paramq.take n

/-- How many words the rule of `op` reads that its entry in the configured `ARITY` does not give it: none with the default table. -/
def missingWords (op : Byte) (s : State) : Nat := (opcodeRow op).arity - (headParams (s.params.arityOf op) s).length

/-- `execute(op, P)` (R146, R153). A word the command's rule reads and the queue does not give it is a free value with a draw of its
own, so that every command runs under every `ARITY` (R290; notes/assumptions/14.md). -/
def executeHead (op : Byte) (s : State) : Host.Outcome State Fault Refusal :=
  exec (commandOf op (fun k => Config.missingParam (s.draws + k)) (headParams (s.params.arityOf op) s))
    { s with draws := s.draws + missingWords op s }

/-- One turn of the drain loop (R146): execute the head opcode with its parameters, then remove them. -/
def dispatchHead (op : Byte) (s : State) : Host.Outcome State Fault Refusal :=
  andThen (executeHead op s) fun t => .next (removeHead (s.params.arityOf op) t)

/-- `drain()` (R146) with at most `k` turns; each turn removes one opcode, so the length of the queue is enough. -/
def drain (k : Nat) (s : State) : Host.Outcome State Fault Refusal :=
  match k with
  | 0 => .next s
  | k + 1 =>
    match s.cmdq with
    | [] => .next s
    | op :: _ => andThen (dispatchHead op s) (drain k)

/-- The accumulate half of `submit` (R141, first test). -/
def accumulate (w : Word) (s : State) : State := if s.owed = 0 then commandPhase w s else parameterPhase w s

/-- The drain half of `submit` (R141, second test): it runs only when no parameter is owed. -/
def drainIfReady (s : State) : Host.Outcome State Fault Refusal := if s.owed = 0 then drain s.cmdq.length s else .next s

/-- `submit(word)` (R140, R141). -/
def submit (w : Word) (s : State) : Host.Outcome State Fault Refusal :=
  andThen (drainIfReady (accumulate w s)) fun t => .next (updateStatus t)

/-- What one action of the environment does (R14 a, b). A write of an enable moves nothing else, `irq` included (R149). -/
def applyEvent (e : Event) (s : State) : Host.Outcome State Fault Refusal :=
  match e with
  | .submit w => submit w s
  | .writeEnEmpty b => .next { s with enEmpty := b }
  | .writeEnHalf b => .next { s with enHalf := b }

/-- The queue state in which the next word the environment submits completes the command `op` with the parameter words `P`,
packed with three NOPs (R101): nothing pending but the command itself, all its parameters arrived but the last. -/
def placeCommand (op : Byte) (P : List Word) (s : State) : State :=
  match P.getLast? with
  | none => { s with cmdq := [], paramq := [], owed := 0, fill := 0, input := .submit (packOps op 0 0 0) :: s.input }
  | some w =>
    { s with
      cmdq := [op, 0, 0, 0]
      paramq := P.dropLast
      owed := 1
      fill := 3 + P.dropLast.length
      input := .submit w :: s.input }

end Sys2Proof.Machine
end

