-- ==== Sys2Proof/Machine/Step.lean ====
section
/-! DEFINITION. One step: the environment's next action (spec/00_scope.md R13, R14). The block has no step of its own
(spec/41_fifo.md R140). -/

namespace Sys2Proof.Machine

/-- One step takes the oldest pending action of the environment. With none pending the block is idle and keeps all its state
(spec/60_exceptions.md R346). -/
def step (s : State) : Host.Outcome State Fault Refusal :=
  match s.input with
  | [] => .next s
  | e :: rest => applyEvent e { s with input := rest }

/-- `s` with one command placed where the next step fetches: the very next step executes it, and the three NOPs its command word
is padded with (R101). The words are laid out as `decodeTableWord` reads them (notes/assumptions/9.md). -/
def State.withFetchWord (s : State) (nbits w : Nat) : State :=
  let v := w % 2 ^ nbits
  let op := tableOpcode v
  placeCommand op (tableParams (s.params.arityOf op) v) s

end Sys2Proof.Machine
end

