-- ==== Sys2Proof/Machine/Read.lean ====
section
/-! DEFINITION. What the environment can read between two submits (spec/00_scope.md R14 c, d; spec/20_memory.md R78: a read has
no side effect). The status fields of R40 and R41 are read as they stand in the state. A result field or the frame buffer has
no value to read while it is Unwritten (spec/70_reset_and_hazards.md R372, R376, R383): the read answers none. -/

namespace Sys2Proof.Machine

/-- A read of an element that may be Unwritten (R372). -/
def Reg.read? {α : Type} (r : Reg α) : Option α := if r.written then some r.val else none

/-- The frame buffer, "valid only after a swap completes" (R38, R383). -/
def readFrame (s : State) : Option Frame := s.fb.read?

/-- `fb[y][x]` (R38), row `y`, column `x`; none off the frame. -/
def readPixel (s : State) (y x : Nat) : Option Pixel := (readFrame s).bind fun F => F.pixel y x

/-- `posmtx_result[k]` (R42). -/
def readPosmtx (s : State) (k : Fin 16) : Option Word := s.posmtxResult.read?.map fun v => v[k]

/-- `vecmtx_result[k]` (R42). -/
def readVecmtx (s : State) (k : Fin 16) : Option Word := s.vecmtxResult.read?.map fun v => v[k]

/-- `pos_result[k]` (R42). -/
def readPosResult (s : State) (k : Fin 4) : Option Word := s.posResult.read?.map fun v => v[k]

/-- `st_boxtest` (R42). -/
def readBoxtest (s : State) : Option Bool := s.stBoxtest.read?

end Sys2Proof.Machine
end

