-- ==== Sys2Proof/Safety.lean ====
section
/-! DEFINITION. What the spec promises of every state between two submits (spec/41_fifo.md R150, spec/10_state.md R33, R36, R37),
the boot requirements of a command in a given state (spec/70_reset_and_hazards.md R372 to R375), and the state as the spec sees
it. -/

namespace Sys2Proof.Machine

/-- The constraints on a configuration: those of R8's table and of R151 (U7), and of the numbers R32 gives: the depth of the shared
stack is below its slots, and every 5-bit slot index names a slot (notes/assumptions/23.md). -/
structure ConfigInv (p : Params) : Prop where
  cmdCap : 4 ≤ p.cmdCap
  paramCap : ∀ op, 4 * p.arityOf op ≤ p.paramCap
  pvDepth : p.pvStackDepth < p.pvStackSlots
  pvSlots : 32 ≤ p.pvStackSlots
  maxVtx : 4 ≤ p.maxVtx
  maxPoly : 1 ≤ p.maxPoly
  pixels : p.pixClear ≠ p.pixLine

/-- The queue between two submits (R150, items 1 to 3). -/
structure QueueInv (s : State) : Prop where
  owed : s.owed + s.paramq.length = (s.cmdq.map s.params.arityOf).sum
  whole : (s.cmdq.length = 0 ∧ s.owed = 0) ∨ (s.cmdq.length = 4 ∧ 0 < s.owed)
  fill : s.fill = (s.cmdq.filter fun op => s.params.arityOf op = 0).length + s.paramq.length

/-- The published status between two submits (R148, R173). -/
structure StatusInv (s : State) : Prop where
  fill : s.stFill = s.fill
  empty : s.stEmpty = true ↔ s.fill = 0
  half : s.stHalf = true ↔ s.fill < s.params.halfThreshold
  projDepth : s.stProjDepth = s.projSp
  pvDepth : s.stPvDepth = s.pvSp

/-- The index list of a polygon (R20). -/
def Polygon.indices (p : Polygon) : List Nat :=
  match p with
  | .tri a b c => [a, b, c]
  | .quad a b c d => [a, b, c, d]

/-- The two stores (R36, R37): within capacity, and every polygon's indices inside the Vertex Store. -/
structure StoreInv (s : State) : Prop where
  vtxCap : s.vtx.length ≤ s.params.maxVtx
  polyCap : s.poly.length ≤ s.params.maxPoly
  indices : ∀ p ∈ s.poly, ∀ k ∈ p.indices, k < s.vtx.length

/-- The shared stack (R32): both halves have `PV_STACK_SLOTS` slots, and the pointer names one of them. -/
structure StackInv (s : State) : Prop where
  posSlots : s.posStack.length = s.params.pvStackSlots
  vecSlots : s.vecStack.length = s.params.pvStackSlots
  pointer : s.pvSp < s.params.pvStackSlots

/-- The accumulator (R33): homogeneous with w = 1 once written. -/
def CurInv (s : State) : Prop := s.cur.written = true → s.cur.val.w = 1

/-- The frame buffer (R38): `FB_H` rows of `FB_W` pixels. -/
structure FrameInv (s : State) : Prop where
  rows : s.fb.val.length = s.params.fbH
  columns : ∀ row ∈ s.fb.val, row.length = s.params.fbW

/-- The invariant of the block between two submits. -/
structure Inv (s : State) : Prop where
  config : ConfigInv s.params
  queue : QueueInv s
  status : StatusInv s
  store : StoreInv s
  stack : StackInv s
  cur : CurInv s
  frame : FrameInv s

/-- Nothing is queued: the next submitted word is a command word (R90). -/
def State.Idle (s : State) : Prop := s.cmdq = [] ∧ s.paramq = [] ∧ s.owed = 0 ∧ s.fill = 0

/-- The command reads no Unwritten element except to copy it, and its fields are not reserved: it is within the boot requirements of
the spec (R172, R186, R190, R221, R372 to R375). Outside of them a command is refused; under the model's own treatment `run`, which is
not the default, it runs on the values the elements hold, and what it gives is marked Unwritten (notes/assumptions/2.md). -/
def withinBoot (i : Instr) (s : State) : Bool :=
  match i with
  | .mtxMode m => (matrixModeOf m).isSome
  | .mtxPush | .mtxPop _ | .mtxStore _ | .mtxRestore _ => s.mode.written
  | .mtxIdentity | .mtxLoad4x4 _ | .mtxLoad4x3 _ => s.mode.written
  | .mtxMult4x4 _ | .mtxMult4x3 _ | .mtxMult3x3 _ => targetsWritten true s
  | .mtxScale _ _ _ | .mtxTrans _ _ _ => targetsWritten false s
  | .vtx16 _ _ _ | .vtx10 _ _ _ => vertexReady s
  | .vtxXy _ _ | .vtxXz _ _ | .vtxYz _ _ | .vtxDiff _ _ _ => relativeVertexReady s
  | .beginVtxs _ | .posTest _ _ _ => clipOperandsWritten s
  | .nop | .color _ | .normal _ | .texcoord _ | .polygonAttr _ | .teximageParam _ | .plttBase _ => true
  | .difAmb _ | .speEmi _ | .lightVector _ | .lightColor _ | .shininess _ => true
  | .endVtxs | .swapBuffers _ | .viewport _ | .boxTest _ _ _ | .vecTest _ | .undef _ => true

/-- The command runs: it is within the boot requirements, or the treatment is the model's own `run` and no field of it is reserved
(R172, notes/assumptions/2.md). -/
def Runs (i : Instr) (s : State) : Prop := withinBoot i s = true ∨ (s.params.unwrittenUse = .run ∧ i ≠ .mtxMode 3)

/-- The counter has run ahead of the Vertex Store: the stream has vertices after a swap without a new BEGIN_VTXS (R381). The
model gives such streams the behaviour R244 defines; software must not rely on it. -/
def aheadOfStore (s : State) : Bool := s.vtx.length < s.cnt

/-- The register as the spec sees it: what an Unwritten one holds is wiped out. -/
def Reg.erase {α : Type} (dflt : α) (r : Reg α) : Reg α := if r.written then r else ⟨dflt, false⟩

/-- The state as the spec sees it (R372): the values the model chose for Unwritten elements are wiped out. Two states with the
same erasure are the same state of the spec. -/
def State.erase (s : State) : State :=
  { s with
    mode := s.mode.erase .projection
    proj := s.proj.erase .zero
    pos := s.pos.erase .zero
    vec := s.vec.erase .zero
    clip := s.clip.erase .zero
    projStack := s.projStack.erase .zero
    posStack := s.posStack.map (Reg.erase .zero)
    vecStack := s.vecStack.map (Reg.erase .zero)
    cur := s.cur.erase .zero
    prim := s.prim.erase .triangles
    vtx := if s.storeWritten then s.vtx else List.replicate s.vtx.length .zero
    poly := if s.storeWritten then s.poly else []
    fb := s.fb.erase (.clear s.params)
    posmtxResult := s.posmtxResult.erase (Vector.replicate 16 0)
    vecmtxResult := s.vecmtxResult.erase (Vector.replicate 16 0)
    posResult := s.posResult.erase (Vector.replicate 4 0)
    stBoxtest := s.stBoxtest.erase false }

/-- An outcome as the spec sees it. -/
def eraseOutcome (o : Host.Outcome State Fault Refusal) : Host.Outcome State Fault Refusal :=
  andThen o fun s => .next s.erase

end Sys2Proof.Machine
end

