-- ==== Sys2Proof/Certificates/Slice0/Obligations.lean ====
section
/-! DEFINITION. The statements for the provers, and the vocabulary they are written in (namespace Sys2Proof.Claims). A statement of the
form `exec i s = .next { s with … }` says at once that the command completes, what it writes, and that every field it does not
name keeps its value. `written` marks an element the spec calls Unwritten until a command writes it (spec/70_reset_and_hazards.md
R372). `Runs i s` says that the command `i` runs in `s`: it is within the boot requirements, or the configuration has the model's own
treatment `run` in place of the spec's `refuse` (U6), the default: `run` lets it run on the values the elements hold and marks what it
gives (notes/assumptions/2.md).
`s.params` is the configuration of the block: a statement about every state is one about every configuration, the arithmetic of `NUM`
included, and what it says for another `NUM`, stack size or fraction width than the default is the model's reading of the rules
(notes/assumptions/3.md, notes/assumptions/23.md). -/

namespace Sys2Proof.Claims

open Sys2Proof.Machine

/-- A state with new current matrices and the depths republished (R171, R173). -/
def withCurrent (s : State) (proj pos vec : Reg Mat4) : State :=
  { s with proj := proj, pos := pos, vec := vec, stProjDepth := s.projSp, stPvDepth := s.pvSp }

/-- The state after every target of R171's first two rows has taken the value `f` gives it. -/
def targets12 (s : State) (f : Reg Mat4 → Reg Mat4) : State :=
  match s.mode.val with
  | .projection => withCurrent s (f s.proj) s.pos s.vec
  | .position => withCurrent s s.proj (f s.pos) s.vec
  | .positionAndVector => withCurrent s s.proj (f s.pos) (f s.vec)

/-- The state after every target of R171's third row has taken the value `f` gives it: never `vec`. -/
def targets3 (s : State) (f : Reg Mat4 → Reg Mat4) : State :=
  match s.mode.val with
  | .projection => withCurrent s (f s.proj) s.pos s.vec
  | .position | .positionAndVector => withCurrent s s.proj (f s.pos) s.vec

/-- The shared stack is selected (R171, fourth row). -/
def usesSharedStack (s : State) : Prop := s.mode.val = .position ∨ s.mode.val = .positionAndVector

/-- A copy of a register that `mode` selects, marked Unwritten while `mode` is (notes/assumptions/2.md). -/
def selected (s : State) (C : Reg Mat4) : Reg Mat4 := ⟨C.val, C.written && s.mode.written⟩

/-- The product `mul_into` puts in place of a current matrix `C` (R127), by the configured `MUL_ORDER`. -/
def product (s : State) (M : Mat4) (C : Reg Mat4) : Reg Mat4 :=
  match s.params.mulOrder with
  | .operandLeft => ⟨matmul s.params.num M C.val, C.written && s.mode.written⟩
  | .operandRight => ⟨matmul s.params.num C.val M, C.written && s.mode.written⟩

/-- The integer `i` over `2 ^ FRAC_BITS` (R121, R123), 4096 by default. -/
def scaled (p : Params) (i : Int) : NUM :=
  match p.num with
  | .exact => (i : ℚ) / 2 ^ p.fracBits
  | .other => Config.otherDiv (Config.otherOfInt i) (Config.otherOfInt (2 ^ p.fracBits : Nat))

/-- `w` is a word the conversion may give for `r` (R122): by default the truncation toward zero of `r x 4096` when that is in the
signed 32-bit range, any word otherwise; a block with another conversion gives the free value of `r`. -/
def Fix12Of (p : Params) (r : NUM) (w : Word) : Prop :=
  match p.conversion with
  | .truncate =>
    let y := p.num.mul r (p.num.ofInt (2 ^ p.fracBits : Nat))
    let t : Int := if 0 ≤ y then ⌊y⌋ else ⌈y⌉
    (-2 ^ 31 : Int) ≤ t → t ≤ 2 ^ 31 - 1 → w = BitVec.ofInt 32 t
  | .other => w = Config.otherFix12 r

/-- The three results of `update_clip` in the state `t` reached from `s` (R190): element `4c + r` of a snapshot is row `r`,
column `c`; an Unwritten matrix leaves its results Unwritten. That it does so to a Vector snapshot that an earlier `update_clip` had
written is the model's choice (notes/assumptions/24.md). -/
def ClipUpdated (s t : State) : Prop :=
  t.clip = ⟨matmul s.params.num s.proj.val s.pos.val, s.proj.written && s.pos.written⟩ ∧
  (∀ r c : Fin 4, Fix12Of s.params (s.pos.val.get r c) t.posmtxResult.val[4 * c.val + r.val]) ∧
  t.posmtxResult.written = s.pos.written ∧
  (∀ r c : Fin 4, Fix12Of s.params (s.vec.val.get r c) t.vecmtxResult.val[4 * c.val + r.val]) ∧
  t.vecmtxResult.written = s.vec.written

/-- The table of R243 as store indices, the count `c` and the store length `n` both after the append. -/
def tableIndices (prim : PrimitiveMode) (c n : Int) : Option (List Int) :=
  match prim with
  | .triangles => if c % 3 = 0 then some [n - 3, n - 2, n - 1] else none
  | .quads => if c % 4 = 0 then some [n - 4, n - 3, n - 2, n - 1] else none
  | .triangleStrip =>
    if 3 ≤ c ∧ c % 2 = 1 then some [n - 3, n - 2, n - 1]
    else if 3 ≤ c ∧ c % 2 = 0 then some [n - 2, n - 3, n - 1]
    else none
  | .quadStrip => if 4 ≤ c ∧ c % 2 = 0 then some [n - 2, n - 4, n - 3, n - 1] else none

/-- The Polygon Store `after` from `before`, given the polygon the table selects (R244, R245) and the capacity. -/
def Assembled (cap : Nat) (selected : Option (List Int)) (before after : List Polygon) : Prop :=
  match selected with
  | none => after = before
  | some idx =>
    if (∀ k ∈ idx, 0 ≤ k) ∧ before.length < cap then
      ∃ p : Polygon, p.indices.map (fun k => (k : Int)) = idx ∧ after = before ++ [p]
    else after = before

/-- What a vertex command that leaves `v` in the accumulator, with the mark `c`, does (R211, R219, R243 to R245): with the Vertex Store
full only `cur` is written; otherwise the transformed vertex is appended and counted, and the table decides about a polygon. The mark
of the stores is the model's own (notes/assumptions/2.md). -/
def VertexStep (s : State) (v : Vec4) (c : Bool) (t : State) : Prop :=
  if s.params.maxVtx ≤ s.vtx.length then t = { s with cur := ⟨v, c⟩ }
  else ∃ q, t = { s with
      cur := ⟨v, c⟩
      vtx := s.vtx ++ [xform s.params.num s.clip.val v]
      cnt := s.cnt + 1
      poly := q
      storeWritten := s.storeWritten && s.clip.written && s.prim.written && c } ∧
    Assembled s.params.maxPoly (tableIndices s.prim.val (s.cnt + 1 : Nat) (s.vtx.length + 1 : Nat)) s.poly q

/-- Commands one after another. -/
def runInstrs : List Instr → State → Host.Outcome State Fault Refusal
  | [], s => .next s
  | i :: is, s => andThen (exec i s) (runInstrs is)

/-- `k` MTX_PUSH commands one after another. -/
def runPushes : Nat → State → Host.Outcome State Fault Refusal
  | 0, s => .next s
  | k + 1, s => andThen (exec .mtxPush s) (runPushes k)

/-- The removal of the head command of arity `n` (R147). -/
def headRemoved (n : Nat) (s : State) : State :=
  { s with cmdq := s.cmdq.tail, paramq := s.paramq.drop n, fill := s.fill - (if n = 0 then 1 else n) }

/-- Decoded commands executed in order, each removed from the queues when it is done (R146, R147). -/
def runCommands : List (Byte × Instr) → State → Host.Outcome State Fault Refusal
  | [], s => .next s
  | c :: cs, s => andThen (exec c.2 s) fun t => runCommands cs (headRemoved (s.params.arityOf c.1) t)

/-- A screen position outside the frame (R266). -/
def OffScreen (p : Params) (a : Point) : Prop := a.x < 0 ∨ (p.fbW : Int) ≤ a.x ∨ a.y < 0 ∨ (p.fbH : Int) ≤ a.y

/-- The minor coordinate of step `i` from `start` with the slope `n / d` (R269). -/
def minorOf (p : Params) (start i n d : Int) : Int :=
  match p.num with
  | .exact => ⌊(start : ℚ) + i * ((n : ℚ) / d)⌋
  | .other =>
    ⌊Config.otherAdd (Config.otherOfInt start)
      (Config.otherMul (Config.otherOfInt i) (Config.otherDiv (Config.otherOfInt n) (Config.otherOfInt d)))⌋

/-- `(x, y)` is a pixel that `walk(F, a, b)` plots (R269). -/
def Walked (p : Params) (a b : Point) (x y : Int) : Prop :=
  if |b.y - a.y| ≤ |b.x - a.x| then
    let l := if b.x < a.x then b else a
    let h := if b.x < a.x then a else b
    ∃ i : Nat, (i : Int) ≤ h.x - l.x ∧ x = l.x + i ∧ y = minorOf p l.y i (h.y - l.y) (h.x - l.x)
  else
    let l := if b.y < a.y then b else a
    let h := if b.y < a.y then a else b
    ∃ i : Nat, (i : Int) ≤ h.y - l.y ∧ y = l.y + i ∧ x = minorOf p l.x i (h.x - l.x) (h.y - l.y)

/-- The screen position of R265. -/
def screenOf (p : Params) (v : Vec4) : Point :=
  match p.num with
  | .exact => ⟨⌊(v.x / v.w + 1) * p.fbW / 2⌋, ⌊(1 - v.y / v.w) * p.fbH / 2⌋⟩
  | .other =>
    ⟨⌊Config.otherDiv (Config.otherMul (Config.otherAdd (Config.otherDiv v.x v.w) 1) (Config.otherOfInt p.fbW)) 2⌋,
      ⌊Config.otherDiv (Config.otherMul (Config.otherSub 1 (Config.otherDiv v.y v.w)) (Config.otherOfInt p.fbH)) 2⌋⟩

/-- `draw_edge` lights `(x, y)` (R266 to R271). -/
def EdgeLights (p : Params) (va vb : Vec4) (x y : Int) : Prop :=
  va.w ≠ 0 ∧ vb.w ≠ 0 ∧ ¬(OffScreen p (screenOf p va) ∧ OffScreen p (screenOf p vb)) ∧ screenOf p va ≠ screenOf p vb ∧
    Walked p (screenOf p va) (screenOf p vb) x y

/-- The commands of spec/42_matrix.md. -/
def isMatrixCommand : Instr → Bool
  | .mtxMode _ | .mtxPush | .mtxPop _ | .mtxStore _ | .mtxRestore _ | .mtxIdentity => true
  | .mtxLoad4x4 _ | .mtxLoad4x3 _ | .mtxMult4x4 _ | .mtxMult4x3 _ | .mtxMult3x3 _ => true
  | .mtxScale _ _ _ | .mtxTrans _ _ _ => true
  | _ => false

/-- The six vertex commands of R210. -/
def isVertexCommand : Instr → Bool
  | .vtx16 _ _ _ | .vtx10 _ _ _ | .vtxXy _ _ | .vtxXz _ _ | .vtxYz _ _ | .vtxDiff _ _ _ => true
  | _ => false

/-- The four vertex commands that build on the accumulator (R33, R221). -/
def isRelativeVertex : Instr → Bool
  | .vtxXy _ _ | .vtxXz _ _ | .vtxYz _ _ | .vtxDiff _ _ _ => true
  | _ => false

/-- A list of vertex commands runs: `clip` and `prim` are written, and `cur` is or the first command writes all of it (R221); or the
treatment is the model's `run` (notes/assumptions/2.md). -/
def VerticesRun (is : List Instr) (s : State) : Prop :=
  s.params.unwrittenUse = .run ∨
    (s.clip.written = true ∧ s.prim.written = true ∧
      (s.cur.written = true ∨ ∀ i ∈ is.head?, isRelativeVertex i = false))

/-- The matrix commands that read `mode`: all but MTX_MODE (R28). -/
def readsMode (i : Instr) : Bool :=
  match i with
  | .mtxMode _ => false
  | _ => isMatrixCommand i

/-- The commands that only copy a matrix (R186). -/
def isCopy : Instr → Bool
  | .mtxPush | .mtxPop _ | .mtxStore _ | .mtxRestore _ => true
  | _ => false

/-- Every element that may be Unwritten and that a command may read is written. -/
structure EverythingWritten (s : State) : Prop where
  mode : s.mode.written = true
  prim : s.prim.written = true
  proj : s.proj.written = true
  pos : s.pos.written = true
  vec : s.vec.written = true
  clip : s.clip.written = true
  cur : s.cur.written = true
  projStack : s.projStack.written = true
  posStack : ∀ r ∈ s.posStack, r.written = true
  vecStack : ∀ r ∈ s.vecStack, r.written = true
  store : s.storeWritten = true

/-- BEGIN_VTXS or POS_TEST, the two that recompute `clip` (R191). -/
def recomputesClip : Instr → Bool
  | .beginVtxs _ | .posTest _ _ _ => true
  | _ => false

/-- The commands without an effect of their own (R242, R290 to R304, R306). -/
def hasNoEffect : Instr → Bool
  | .nop | .color _ | .normal _ | .texcoord _ | .polygonAttr _ | .teximageParam _ | .plttBase _ => true
  | .difAmb _ | .speEmi _ | .lightVector _ | .lightColor _ | .shininess _ => true
  | .endVtxs | .viewport _ | .vecTest _ | .undef _ => true
  | _ => false

/-- The defined opcodes of R96 with their arities. -/
def definedOpcodes : List (Byte × Nat) :=
  [(0x00, 0), (0x10, 1), (0x11, 0), (0x12, 1), (0x13, 1), (0x14, 1), (0x15, 0), (0x16, 16), (0x17, 12), (0x18, 16)] ++
  [(0x19, 12), (0x1A, 9), (0x1B, 3), (0x1C, 3), (0x20, 1), (0x21, 1), (0x22, 1), (0x23, 2), (0x24, 1), (0x25, 1)] ++
  [(0x26, 1), (0x27, 1), (0x28, 1), (0x29, 1), (0x2A, 1), (0x2B, 1), (0x30, 1), (0x31, 1), (0x32, 1), (0x33, 1)] ++
  [(0x34, 32), (0x40, 1), (0x41, 0), (0x50, 1), (0x60, 1), (0x70, 3), (0x71, 2), (0x72, 1)]

end Sys2Proof.Claims

open Sys2Proof Sys2Proof.Machine Sys2Proof.Claims

/-! Encoding (spec/30_encoding.md). -/

/-- R144 with the table of R96 (the spec's default, D1): the 38 arities, and 0 for every opcode not listed; the decoder's opcode map
has the same arities. -/
def Obligations.ArityTableMatchesTheMap : Prop :=
  (∀ e ∈ definedOpcodes, Params.default.arityOf e.1 = e.2) ∧
  (∀ op : Byte, op ∉ definedOpcodes.map Prod.fst → Params.default.arityOf op = 0) ∧
  ∀ op : Byte, Params.default.arityOf op = arity op

/-- R97, under any arity table: decoding succeeds exactly when the parameters are there; it answers a well-formed command of that opcode
and consumes exactly the opcode's arity. A table that gives an opcode fewer words than its rule reads leaves the others free
(`free`, the model's choice, notes/assumptions/14.md); one that gives it enough leaves nothing free. -/
def Obligations.DecodeConsumesTheArity : Prop :=
  ∀ (ar : Byte → Nat) (free : Nat → Word) (op : Byte) (P : List Word),
    (ar op ≤ P.length →
      ∃ i, decodeCommandBy ar free op P = .ok (i, P.drop (ar op)) ∧ i.wf = true ∧ i.opcode = op) ∧
    (P.length < ar op → decodeCommandBy ar free op P = .error (.missingParameters op)) ∧
    (arity op ≤ ar op → ∀ free' : Nat → Word, decodeCommandBy ar free op P = decodeCommandBy ar free' op P)

/-- Decoding the encoding of any well-formed command gives it back, and leaves the rest of the stream. -/
def Obligations.DecodeOfEncodeIsTheCommand : Prop :=
  ∀ (i : Instr) (rest : List Word), i.wf = true → decodeCommand i.opcode (i.params ++ rest) = .ok (i, rest)

/-- R91, R92 (the spec's choices D2, D3): four commands packed in one command word decode in order, least significant byte first,
all parameters of the first before all of the second. -/
def Obligations.PackedWordDecodesInOrder : Prop :=
  ∀ (i0 i1 i2 i3 : Instr) (rest : List Word), i0.wf = true → i1.wf = true → i2.wf = true → i3.wf = true →
    decodeStream (encodePacked i0 i1 i2 i3 ++ rest) = .ok ([i0, i1, i2, i3], rest)

/-- R94: bits of a parameter word that the command's rule does not name are ignored (the spec's choice D38). -/
def Obligations.UnnamedParameterBitsAreIgnored : Prop :=
  ∀ (w w' : Word) (rest : List Word),
    (w &&& 0x3 = w' &&& 0x3 →
      decodeCommand 0x10 (w :: rest) = decodeCommand 0x10 (w' :: rest) ∧
      decodeCommand 0x40 (w :: rest) = decodeCommand 0x40 (w' :: rest)) ∧
    (w &&& 0x3F = w' &&& 0x3F → decodeCommand 0x12 (w :: rest) = decodeCommand 0x12 (w' :: rest)) ∧
    (w &&& 0x1F = w' &&& 0x1F →
      decodeCommand 0x13 (w :: rest) = decodeCommand 0x13 (w' :: rest) ∧
      decodeCommand 0x14 (w :: rest) = decodeCommand 0x14 (w' :: rest)) ∧
    (w &&& 0x3FFFFFFF = w' &&& 0x3FFFFFFF →
      decodeCommand 0x24 (w :: rest) = decodeCommand 0x24 (w' :: rest) ∧
      decodeCommand 0x28 (w :: rest) = decodeCommand 0x28 (w' :: rest)) ∧
    ∀ p : Word, w &&& 0xFFFF = w' &&& 0xFFFF →
      decodeCommand 0x23 (p :: w :: rest) = decodeCommand 0x23 (p :: w' :: rest) ∧
      decodeCommand 0x71 (p :: w :: rest) = decodeCommand 0x71 (p :: w' :: rest)

/-- R95, R96, R172, R175 to R185, R212 to R218, R241: every opcode of the map with the bits its operands are read from, for every
parameter word. -/
def Obligations.FieldsAreReadFromTheirBits : Prop :=
  ∀ (p q r : Word) (rest : List Word),
    (decodeCommand 0x00 rest = .ok (.nop, rest) ∧ decodeCommand 0x11 rest = .ok (.mtxPush, rest) ∧
      decodeCommand 0x15 rest = .ok (.mtxIdentity, rest) ∧ decodeCommand 0x41 rest = .ok (.endVtxs, rest)) ∧
    (decodeCommand 0x10 (p :: rest) = .ok (.mtxMode (p.extractLsb' 0 2), rest) ∧
      decodeCommand 0x12 (p :: rest) = .ok (.mtxPop (p.extractLsb' 0 6), rest) ∧
      decodeCommand 0x13 (p :: rest) = .ok (.mtxStore (p.extractLsb' 0 5), rest) ∧
      decodeCommand 0x14 (p :: rest) = .ok (.mtxRestore (p.extractLsb' 0 5), rest)) ∧
    (∀ a : Vector Word 16, decodeCommand 0x16 (a.toList ++ rest) = .ok (.mtxLoad4x4 a, rest) ∧
      decodeCommand 0x18 (a.toList ++ rest) = .ok (.mtxMult4x4 a, rest)) ∧
    (∀ a : Vector Word 12, decodeCommand 0x17 (a.toList ++ rest) = .ok (.mtxLoad4x3 a, rest) ∧
      decodeCommand 0x19 (a.toList ++ rest) = .ok (.mtxMult4x3 a, rest)) ∧
    (∀ a : Vector Word 9, decodeCommand 0x1A (a.toList ++ rest) = .ok (.mtxMult3x3 a, rest)) ∧
    (decodeCommand 0x1B (p :: q :: r :: rest) = .ok (.mtxScale p q r, rest) ∧
      decodeCommand 0x1C (p :: q :: r :: rest) = .ok (.mtxTrans p q r, rest)) ∧
    (decodeCommand 0x20 (p :: rest) = .ok (.color p, rest) ∧ decodeCommand 0x21 (p :: rest) = .ok (.normal p, rest) ∧
      decodeCommand 0x22 (p :: rest) = .ok (.texcoord p, rest)) ∧
    (decodeCommand 0x23 (p :: q :: rest) =
        .ok (.vtx16 (p.extractLsb' 0 16) (p.extractLsb' 16 16) (q.extractLsb' 0 16), rest) ∧
      decodeCommand 0x24 (p :: rest) = .ok (.vtx10 (p.extractLsb' 0 10) (p.extractLsb' 10 10) (p.extractLsb' 20 10), rest) ∧
      decodeCommand 0x25 (p :: rest) = .ok (.vtxXy (p.extractLsb' 0 16) (p.extractLsb' 16 16), rest) ∧
      decodeCommand 0x26 (p :: rest) = .ok (.vtxXz (p.extractLsb' 0 16) (p.extractLsb' 16 16), rest) ∧
      decodeCommand 0x27 (p :: rest) = .ok (.vtxYz (p.extractLsb' 0 16) (p.extractLsb' 16 16), rest) ∧
      decodeCommand 0x28 (p :: rest) = .ok (.vtxDiff (p.extractLsb' 0 10) (p.extractLsb' 10 10) (p.extractLsb' 20 10), rest)) ∧
    (decodeCommand 0x29 (p :: rest) = .ok (.polygonAttr p, rest) ∧ decodeCommand 0x2A (p :: rest) = .ok (.teximageParam p, rest) ∧
      decodeCommand 0x2B (p :: rest) = .ok (.plttBase p, rest)) ∧
    (decodeCommand 0x30 (p :: rest) = .ok (.difAmb p, rest) ∧ decodeCommand 0x31 (p :: rest) = .ok (.speEmi p, rest) ∧
      decodeCommand 0x32 (p :: rest) = .ok (.lightVector p, rest) ∧ decodeCommand 0x33 (p :: rest) = .ok (.lightColor p, rest)) ∧
    (∀ a : Vector Word 32, decodeCommand 0x34 (a.toList ++ rest) = .ok (.shininess a, rest)) ∧
    (decodeCommand 0x40 (p :: rest) = .ok (.beginVtxs (p.extractLsb' 0 2), rest) ∧
      decodeCommand 0x50 (p :: rest) = .ok (.swapBuffers p, rest) ∧ decodeCommand 0x60 (p :: rest) = .ok (.viewport p, rest)) ∧
    (decodeCommand 0x70 (p :: q :: r :: rest) = .ok (.boxTest p q r, rest) ∧
      decodeCommand 0x71 (p :: q :: rest) =
        .ok (.posTest (p.extractLsb' 0 16) (p.extractLsb' 16 16) (q.extractLsb' 0 16), rest) ∧
      decodeCommand 0x72 (p :: rest) = .ok (.vecTest p, rest)) ∧
    ∀ op : Byte, op ∉ definedOpcodes.map Prod.fst → decodeCommand op rest = .ok (.undef op, rest)

/-- A sanity statement: words written out from the spec's examples and field tables decode to the commands they stand for. -/
def Obligations.ExampleWordsDecode : Prop :=
  decodeStream [0x00000010, 0xFFFFFFF1] = .ok ([.mtxMode 1, .nop, .nop, .nop], []) ∧
  decodeStream [0x00000012, 0x0000003F] = .ok ([.mtxPop 0x3F, .nop, .nop, .nop], []) ∧
  decodeStream [0x00000023, 0xF0001000, 0x00007FFF] = .ok ([.vtx16 0x1000 0xF000 0x7FFF, .nop, .nop, .nop], []) ∧
  decodeStream [0x00000024, 0xDFFF0040] = .ok ([.vtx10 0x040 0x3C0 0x1FF, .nop, .nop, .nop], []) ∧
  decodeStream [0x00001B10, 0, 0x2000, 0x3000, 0x4000] = .ok ([.mtxMode 0, .mtxScale 0x2000 0x3000 0x4000, .nop, .nop], []) ∧
  decodeStream [0x80FF0F01] = .ok ([.undef 0x01, .undef 0x0F, .undef 0xFF, .undef 0x80], [])

/-! The command/parameter FIFO (spec/41_fifo.md). -/

/-- R142 (the spec's choices D3, D4): a command word enqueues its four opcodes, adds up what they owe, and counts the zero-arity
ones. -/
def Obligations.CommandWordIsAccumulated : Prop :=
  ∀ (w : Word) (s : State), s.owed = 0 →
    let ops : List Byte := [w.extractLsb' 0 8, w.extractLsb' 8 8, w.extractLsb' 16 8, w.extractLsb' 24 8]
    accumulate w s =
      { s with
        cmdq := s.cmdq ++ ops
        owed := (ops.map s.params.arityOf).sum
        fill := s.fill + ops.countP fun op => s.params.arityOf op = 0 }

/-- R143 (the spec's choice D4 for the fill level): while parameters are owed the whole word is one parameter. -/
def Obligations.ParameterWordIsAccumulated : Prop :=
  ∀ (w : Word) (s : State), s.owed ≠ 0 →
    accumulate w s = { s with paramq := s.paramq ++ [w], owed := s.owed - 1, fill := s.fill + 1 }

/-- R145: while a parameter is owed after the word nothing executes; the submit only accumulates and republishes the status. -/
def Obligations.NothingExecutesWhileParametersAreOwed : Prop :=
  ∀ (w : Word) (rest : List Event) (s : State), s.input = .submit w :: rest →
    (accumulate w { s with input := rest }).owed ≠ 0 →
    step s = .next (updateStatus (accumulate w { s with input := rest }))

/-- A step runs the decoded command: when the submitted word leaves nothing owed and the queues decode, the step is `exec` of the
queued commands in FIFO order, each removed when done, and then the status update (R141, R146). The arity table gives each queued
opcode the words its rule reads, as the default one does; DrainRunsTheHeadCommand has any table. -/
def Obligations.StepRunsTheQueuedCommands : Prop :=
  ∀ (w : Word) (rest : List Event) (s : State) (free : Nat → Word) (is : List Instr) (left : List Word),
    s.input = .submit w :: rest →
    let a := accumulate w { s with input := rest }
    a.owed = 0 → (∀ op ∈ a.cmdq, arity op ≤ s.params.arityOf op) →
    decodeOpsBy s.params.arityOf free a.cmdq a.paramq = .ok (is, left) →
    step s = andThen (runCommands (a.cmdq.zip is) a) fun t => .next (updateStatus t)

/-- The step of one command at the head of the queue, under any arity table: it is `exec` of the decoded command, the head is removed,
and the rest of the queue is drained (R146, R147; the decrement of `fill` is the spec's inference D4). Words that the command's rule
reads and the table does not give it are draws of a free word (notes/assumptions/14.md). -/
def Obligations.DrainRunsTheHeadCommand : Prop :=
  ∀ (s : State) (op : Byte) (ops : List Byte) (i : Instr) (left : List Word), s.cmdq = op :: ops →
    decodeCommandBy s.params.arityOf (fun k => Config.missingParam (s.draws + k)) op s.paramq = .ok (i, left) →
    drain s.cmdq.length s =
      andThen (exec i { s with draws := s.draws + (arity op - s.params.arityOf op) }) fun t =>
        drain ops.length (headRemoved (s.params.arityOf op) t)

/-- A command submitted word by word to an idle block (R101) runs exactly its meaning: after its command word and its parameter
words the state is that of `exec`, with the queues empty again and the status published. The words are the encoder's, so the arity
table is the default one; the rest of the configuration is arbitrary. -/
def Obligations.SubmittedCommandRunsItsMeaning : Prop :=
  ∀ (i : Instr) (s : State), (∀ op, s.params.arityOf op = arity op) → i.wf = true → s.Idle → s.input = [] →
    Host.Core.run Sys2Proof.core (encode i).length ({ s with input := (encode i).map Event.submit } : State) =
      andThen (exec i s) fun t => .next (updateStatus t)

/-- R148, R149: the status fields and the interrupt request after every submit; `HALF_THRESHOLD` is 128 by default. -/
def Obligations.StatusIsRecomputedByEverySubmit : Prop :=
  Params.default.halfThreshold = 128 ∧
  ∀ (w : Word) (rest : List Event) (s t : State), s.input = .submit w :: rest → step s = .next t →
    t.stFill = t.fill ∧ (t.stEmpty = true ↔ t.fill = 0) ∧ (t.stHalf = true ↔ t.fill < s.params.halfThreshold) ∧
    (t.irq = true ↔ (t.enEmpty = true ∧ t.stEmpty = true) ∨ (t.enHalf = true ∧ t.stHalf = true)) ∧
    t.enEmpty = s.enEmpty ∧ t.enHalf = s.enHalf

/-- R14, R149: the environment's writes of the enables move those bits and nothing else, `irq` included; with nothing to do the
block keeps all its state. That `irq` waits for the next submit is the spec's choice D6; the input list is the model's own
(notes/assumptions/5.md). -/
def Obligations.EnableWritesMoveOnlyTheEnables : Prop :=
  ∀ (b : Bool) (rest : List Event) (s : State),
    (s.input = .writeEnEmpty b :: rest → step s = .next { s with input := rest, enEmpty := b }) ∧
    (s.input = .writeEnHalf b :: rest → step s = .next { s with input := rest, enHalf := b }) ∧
    (s.input = [] → step s = .next s)

/-- R153: a handler touches neither the queues nor their status, and neither the enables nor `irq`. -/
def Obligations.HandlersLeaveTheQueueAlone : Prop :=
  ∀ (i : Instr) (s t : State), exec i s = .next t →
    t.cmdq = s.cmdq ∧ t.paramq = s.paramq ∧ t.owed = s.owed ∧ t.fill = s.fill ∧
    t.stFill = s.stFill ∧ t.stEmpty = s.stEmpty ∧ t.stHalf = s.stHalf ∧ t.irq = s.irq ∧
    t.enEmpty = s.enEmpty ∧ t.enHalf = s.enHalf ∧ t.input = s.input

/-- R8: the configuration is no state. Neither a command nor a step changes it (that State carries it is the model's choice,
notes/assumptions/23.md). -/
def Obligations.ConfigurationIsNeverChanged : Prop :=
  (∀ (i : Instr) (s t : State), exec i s = .next t → t.params = s.params) ∧
  ∀ s t : State, step s = .next t → t.params = s.params

/-! The invariant. -/

/-- The reset state meets the invariant, under every configuration that meets its constraints, and so under the default one. (With a
`HALF_THRESHOLD` of 0 the `st_half` of R370 and that of R148 differ.) -/
def Obligations.ResetMeetsTheInvariant : Prop :=
  (∀ p : Params, ConfigInv p → 0 < p.halfThreshold → Inv (.resetWith p)) ∧ Inv State.reset

/-- R370 (the spec's choice D32), under every configuration: reset leaves the values the spec gives, and every other element
Unwritten. What an Unwritten element holds is the model's choice (notes/assumptions/1.md) and is not stated. -/
def Obligations.ResetLeavesTheSpecsValues : Prop :=
  State.reset = .resetWith .default ∧
  ∀ p : Params,
  let s := State.resetWith p
  s.params = p ∧
  (s.cmdq = [] ∧ s.paramq = [] ∧ s.owed = 0 ∧ s.fill = 0) ∧
  (s.projSp = 0 ∧ s.pvSp = 0 ∧ s.err = false ∧ s.stProjDepth = 0 ∧ s.stPvDepth = 0) ∧
  (s.cnt = 0 ∧ s.vtx = [] ∧ s.poly = []) ∧
  (s.stFill = 0 ∧ s.stEmpty = true ∧ s.stHalf = true ∧ s.irq = false) ∧
  (s.enEmpty = false ∧ s.enHalf = false) ∧
  (s.mode.written = false ∧ s.prim.written = false ∧ s.proj.written = false ∧ s.pos.written = false) ∧
  (s.vec.written = false ∧ s.clip.written = false ∧ s.cur.written = false ∧ s.projStack.written = false) ∧
  (s.posStack.length = p.pvStackSlots ∧ s.vecStack.length = p.pvStackSlots) ∧
  (∀ r ∈ s.posStack ++ s.vecStack, r.written = false) ∧
  (s.fb.written = false ∧ s.posmtxResult.written = false ∧ s.vecmtxResult.written = false) ∧
  (s.posResult.written = false ∧ s.stBoxtest.written = false)

/-- R150 (items 1 to 3), R148, R173, R32, R33, R36 to R38: every step keeps the invariant of the queue, the published status, the two
stores, the shared stack, the accumulator and the frame buffer, under every configuration that meets its constraints (R8, R151; those
on the stack are the model's, notes/assumptions/23.md). -/
def Obligations.StepKeepsTheInvariant : Prop := ∀ s t : State, Inv s → step s = .next t → Inv t

/-- R150 (items 4 to 6), R151: what the invariant implies for the FIFO. The bounds 127 are those of the default `ARITY`. R128, R41: the
shared pointer and its published depth are in 0 to 31 with the default slots. -/
def Obligations.InvariantBoundsTheFifo : Prop :=
  ∀ s : State, Inv s →
    (s.owed = 0 → s.cmdq = [] ∧ s.paramq = [] ∧ s.fill = 0 ∧ s.stEmpty = true ∧
      (0 < s.params.halfThreshold → s.stHalf = true)) ∧
    s.cmdq.length ≤ 4 ∧ s.cmdq.length ≤ s.params.cmdCap ∧ s.paramq.length ≤ s.params.paramCap ∧
    ((∀ op, s.params.arityOf op = arity op) →
      s.paramq.length ≤ 127 ∧ s.fill ≤ 127 ∧ (s.params.halfThreshold = 128 → s.stHalf = true)) ∧
    (s.params.pvStackSlots = 32 → s.pvSp ≤ 31 ∧ s.stPvDepth ≤ 31) ∧
    (s.stEmpty = false ↔ s.owed ≠ 0 ∧ ((∃ op ∈ s.cmdq, s.params.arityOf op = 0) ∨ s.paramq ≠ []))

/-- R140, R330, R333: in every state a step never faults, and it is refused only for the reserved matrix mode (R172, U1) or for the
use of an Unwritten element (R186, R190, R221, R372, U6). That the latter does not happen under the treatment `run`, which is not the
default, is the model's choice (notes/assumptions/2.md). -/
def Obligations.OnlyReservedModesAndUnwrittenReadsAreRefused : Prop :=
  ∀ s : State, (∀ f, step s ≠ .fault f) ∧
    ∀ r, step s = .refused r → r = .reservedMatrixMode ∨ (r = .unwritten ∧ s.params.unwrittenUse = .refuse)

/-- R140: a submitted word is accepted, whatever it is, when no MTX_MODE is among the queued opcodes, or, the arity table giving each
opcode the words its rule reads, when no queued MTX_MODE has the reserved field: in a state that meets the invariant and has every
element written, where every element stays written; and in every state under the treatment `run`, which is the model's choice and not
the default (notes/assumptions/2.md). -/
def Obligations.EveryWordIsAccepted : Prop :=
  ∀ (w : Word) (rest : List Event) (s : State), s.input = .submit w :: rest →
    let a := accumulate w { s with input := rest }
    (s.params.unwrittenUse = .run ∨ (Inv s ∧ EverythingWritten s) →
      ((∀ op ∈ a.cmdq, op ≠ 0x10) → ∃ t, step s = .next t) ∧
      ∀ free is left, (∀ op ∈ a.cmdq, arity op ≤ s.params.arityOf op) →
        decodeOpsBy s.params.arityOf free a.cmdq a.paramq = .ok (is, left) → (∀ i ∈ is, i ≠ .mtxMode 3) →
        ∃ t, step s = .next t) ∧
    ∀ t, Inv s → EverythingWritten s → step s = .next t → EverythingWritten t

/-- R372, R186, R190, R221 with U6 and U1: a command within the boot requirements (R372 to R375) completes; outside of them one with
the reserved matrix mode is refused by name, and any other is refused under the treatment `refuse` of U6, the default, named here by
the elements the rules name. Within them no mark is lost: what was written stays written, but for a copy of an Unwritten matrix
(R186) and the snapshot of an Unwritten `vec` (R190, notes/assumptions/24.md). That outside of them every other command completes
under the treatment `run`, on the values the elements hold, is the model's choice (notes/assumptions/2.md). -/
def Obligations.CommandsCompleteUnlessTheTreatmentRefuses : Prop :=
  (Params.default.unwrittenUse = .refuse ∧ State.reset.params = .default) ∧
  ∀ (i : Instr) (s : State),
    (withinBoot i s = true → ∃ t, exec i s = .next t) ∧
    (i = .mtxMode 3 → exec i s = .refused .reservedMatrixMode) ∧
    (s.params.unwrittenUse = .run → i ≠ .mtxMode 3 → ∃ t, exec i s = .next t) ∧
    (s.params.unwrittenUse = .refuse → i ≠ .mtxMode 3 →
      (withinBoot i s = false → exec i s = .refused .unwritten) ∧
      (readsMode i = true → s.mode.written = false → exec i s = .refused .unwritten) ∧
      (recomputesClip i = true → s.proj.written = false ∨ s.pos.written = false → exec i s = .refused .unwritten) ∧
      (isVertexCommand i = true →
        s.clip.written = false ∨ s.prim.written = false ∨ (isRelativeVertex i = true ∧ s.cur.written = false) →
        exec i s = .refused .unwritten)) ∧
    ∀ t, exec i s = .next t → withinBoot i s = true → isCopy i = false →
      (s.mode.written = true → t.mode.written = true) ∧ (s.prim.written = true → t.prim.written = true) ∧
      (s.proj.written = true → t.proj.written = true) ∧ (s.pos.written = true → t.pos.written = true) ∧
      (s.vec.written = true → t.vec.written = true) ∧ (s.clip.written = true → t.clip.written = true) ∧
      (s.cur.written = true → t.cur.written = true) ∧ (s.storeWritten = true → t.storeWritten = true) ∧
      (s.posmtxResult.written = true → t.posmtxResult.written = true) ∧
      (s.posResult.written = true → t.posResult.written = true)

/-- R41, R344, R371: the error flag is sticky over steps, and only MTX_PUSH and MTX_POP change it (that no
command clears it is the spec's choice D33). -/
def Obligations.ErrorFlagIsSticky : Prop :=
  (∀ s t : State, step s = .next t → s.err = true → t.err = true) ∧
  ∀ (i : Instr) (s t : State), exec i s = .next t → t.err ≠ s.err →
    t.err = true ∧ (i = .mtxPush ∨ ∃ n, i = .mtxPop n)

/-! Arithmetic (spec/40_math.md). -/

/-- R124, R125: the entries of a product and of a transformed vertex, evaluated in the order written under any `NUM`; in exact
arithmetic they are the sums, and a product applied to a vertex applies the right factor first. -/
def Obligations.ProductAppliesTheRightFactorFirst : Prop :=
  ∀ (A B : Mat4) (v : Vec4),
    (∀ (k : NumDomain) (r c : Fin 4), (matmul k A B).get r c =
      k.add (k.add (k.add (k.mul (A.get r 0) (B.get 0 c)) (k.mul (A.get r 1) (B.get 1 c))) (k.mul (A.get r 2) (B.get 2 c)))
        (k.mul (A.get r 3) (B.get 3 c))) ∧
    (∀ (k : NumDomain) (r : Fin 4), (xform k A v).get r =
      k.add (k.add (k.add (k.mul (A.get r 0) (v.get 0)) (k.mul (A.get r 1) (v.get 1))) (k.mul (A.get r 2) (v.get 2)))
        (k.mul (A.get r 3) (v.get 3))) ∧
    (∀ r c : Fin 4, (matmul .exact A B).get r c = ∑ k : Fin 4, A.get r k * B.get k c) ∧
    (∀ r : Fin 4, (xform .exact A v).get r = ∑ k : Fin 4, A.get r k * v.get k) ∧
    xform .exact (matmul .exact A B) v = xform .exact A (xform .exact B v)

/-- R8, R120 (D7): with an exact `NUM` the values are those of any ordered field. Products, transformed vertices, decoded words,
VTX_DIFF sums, screen positions and converted words, computed here in the rationals, are what the rules give in `K`. So holding the
values of `NUM` as rationals (notes/assumptions/3.md) leaves no exact instantiation out. -/
def Obligations.ExactResultsAreThoseOfEveryOrderedField : Prop :=
  ∀ (K : Type) [Field K] [LinearOrder K] [IsStrictOrderedRing K] [FloorRing K],
    (∀ (A B : Mat4) (r c : Fin 4),
      (((matmul .exact A B).get r c : ℚ) : K) = ∑ k : Fin 4, ((A.get r k : ℚ) : K) * ((B.get k c : ℚ) : K)) ∧
    (∀ (A : Mat4) (v : Vec4) (r : Fin 4),
      (((xform .exact A v).get r : ℚ) : K) = ∑ k : Fin 4, ((A.get r k : ℚ) : K) * ((v.get k : ℚ) : K)) ∧
    (∀ (p : Params) (w : Word), p.num = .exact → ((fix12 p w : ℚ) : K) = (w.toInt : K) / 2 ^ p.fracBits) ∧
    (∀ a b : NUM, ((NumDomain.exact.add a b : ℚ) : K) = (a : K) + (b : K)) ∧
    (∀ (p : Params) (v : Vec4), p.num = .exact → v.w ≠ 0 →
      toScreen p v = ⟨⌊((v.x : K) / (v.w : K) + 1) * p.fbW / 2⌋, ⌊(1 - (v.y : K) / (v.w : K)) * p.fbH / 2⌋⟩) ∧
    ∀ (p : Params) (d : Nat) (r : NUM), p.num = .exact →
      let t : Int := if 0 ≤ (r : K) then ⌊(r : K) * 2 ^ p.fracBits⌋ else ⌈(r : K) * 2 ^ p.fracBits⌉
      (-2 ^ 31 : Int) ≤ t → t ≤ 2 ^ 31 - 1 → toFix12 p d r = BitVec.ofInt 32 t

/-- R122: a result register reads back the word a value was decoded from, whatever the free value of the out-of-range case
(the conversion is the spec's choice D8), in exact arithmetic and for any `FRAC_BITS`. -/
def Obligations.FixedPointReadsBack : Prop :=
  ∀ (p : Params) (d : Nat) (w : Word), p.num = .exact → toFix12 p d (fix12 p w) = w

/-- R122 (the spec's choice D8): in range, `to_fix12` is the truncation toward zero of the value times `2 ^ FRAC_BITS`, 4096 by
default. -/
def Obligations.FixedPointTruncates : Prop :=
  (Params.default.num = .exact ∧ Params.default.fracBits = 12 ∧ Params.default.conversion = .truncate) ∧
  (∀ (p : Params) (d : Nat) (r : NUM), p.num = .exact →
    let t : Int := if 0 ≤ r then ⌊r * 2 ^ p.fracBits⌋ else ⌈r * 2 ^ p.fracBits⌉
    (-2 ^ 31 : Int) ≤ t → t ≤ 2 ^ 31 - 1 → toFix12 p d r = BitVec.ofInt 32 t) ∧
  ∀ (p : Params) (d : Nat) (r : NUM), Fix12Of p r (convert p d r)

/-- R121, R123 (field layout and shift: the spec's choice D18): the fixed-point formats under every configuration, and with the default
one their scale, sign and range. -/
def Obligations.FixedPointFormatsScaleAndRange : Prop :=
  (∀ (p : Params) (w : Word) (f : BitVec 16) (g : BitVec 10), fix12 p w = scaled p w.toInt ∧ fx16 p f = scaled p f.toInt ∧
    fx10 p g = scaled p (g.toInt * 64) ∧ dx10 p g = scaled p g.toInt) ∧
  let p := Params.default
  (∀ w : Word, fix12 p w = (w.toInt : ℚ) / 4096 ∧ -524288 ≤ fix12 p w ∧ fix12 p w ≤ 524287 + 4095 / 4096) ∧
  (∀ f : BitVec 16, fx16 p f = (f.toInt : ℚ) / 4096 ∧ -8 ≤ fx16 p f ∧ fx16 p f ≤ 7 + 4095 / 4096) ∧
  (∀ f : BitVec 10, fx10 p f = (f.toInt : ℚ) / 64 ∧ -8 ≤ fx10 p f ∧ fx10 p f ≤ 7 + 63 / 64) ∧
  (∀ f : BitVec 10, dx10 p f = (f.toInt : ℚ) / 4096 ∧ -1 / 8 ≤ dx10 p f ∧ dx10 p f ≤ 511 / 4096) ∧
  (fx16 p 0x1000 = 1 ∧ fx16 p 0xF000 = -1 ∧ fx16 p 0x8000 = -8 ∧ fx16 p 0x7FFF = 32767 / 4096) ∧
  (fx10 p 0x040 = 1 ∧ fx10 p 0x3C0 = -1 ∧ fx10 p 0x200 = -8 ∧ fx10 p 0x1FF = 511 / 64) ∧
  (dx10 p 0x001 = 1 / 4096 ∧ dx10 p 0x3FF = -1 / 4096 ∧ dx10 p 0x200 = -1 / 8)

/-! The matrix commands (spec/42_matrix.md). -/

/-- R172: MTX_MODE with 0, 1, 2 selects the mode and republishes the depths; the reserved value 3 is refused (U1;
the numbering is the spec's choice D11). -/
def Obligations.MtxModeSelectsTheMode : Prop :=
  ∀ s : State,
    let inMode (v : MatrixMode) : State := { s with mode := ⟨v, true⟩, stProjDepth := s.projSp, stPvDepth := s.pvSp }
    exec (.mtxMode 0) s = .next (inMode .projection) ∧
    exec (.mtxMode 1) s = .next (inMode .position) ∧
    exec (.mtxMode 2) s = .next (inMode .positionAndVector) ∧
    exec (.mtxMode 3) s = .refused .reservedMatrixMode

/-- R174: MTX_PUSH, whenever it runs, on both stacks, with room and at full depth, by default 1 and 31. Both halves move in Position
mode too (the spec's choice D12). R174 writes that the pointer is at the depth; that a pointer above it, which a pop can reach under
a depth below the last slot, sets `err` too is the model's reading of R128, which moves the pointer only when it is below
(notes/assumptions/23.md). -/
def Obligations.MtxPushCopiesOrSetsTheErrorFlag : Prop :=
  (Params.default.projStackDepth = 1 ∧ Params.default.pvStackDepth = 31) ∧
  ∀ s : State, Runs .mtxPush s →
    (s.mode.val = .projection → s.params.projStackDepth ≤ s.projSp.val →
      exec .mtxPush s = .next { s with err := true, stProjDepth := s.projSp, stPvDepth := s.pvSp }) ∧
    (s.mode.val = .projection → s.projSp.val < s.params.projStackDepth →
      exec .mtxPush s = .next { s with
        projStack := selected s s.proj, projSp := 1, stProjDepth := 1, stPvDepth := s.pvSp }) ∧
    (usesSharedStack s → s.params.pvStackDepth ≤ s.pvSp →
      exec .mtxPush s = .next { s with err := true, stProjDepth := s.projSp, stPvDepth := s.pvSp }) ∧
    (usesSharedStack s → s.pvSp < s.params.pvStackDepth →
      exec .mtxPush s = .next { s with
        posStack := s.posStack.set s.pvSp (selected s s.pos)
        vecStack := s.vecStack.set s.pvSp (selected s s.vec)
        pvSp := s.pvSp + 1
        stProjDepth := s.projSp
        stPvDepth := s.pvSp + 1 })

/-- R175: MTX_POP, whenever it runs: the pointer moves by the signed count modulo the slots, by default 32, the matrices load from
the slot it lands on, and `err` is set exactly when the unwrapped index is outside the slots; in Projection mode slot 0 is loaded
and the parameter is ignored (when `err` is set is the spec's choice D13; that another number of slots stands for the 32 and 31 of
the rule is the model's reading, notes/assumptions/23.md). -/
def Obligations.MtxPopWrapsAndLoads : Prop :=
  Params.default.pvStackSlots = 32 ∧
  ∀ (n : BitVec 6) (s : State), Runs (.mtxPop n) s →
    (s.mode.val = .projection →
      exec (.mtxPop n) s = .next { s with
        proj := selected s s.projStack
        projSp := 0
        err := s.err || decide (s.projSp = 0)
        stProjDepth := 0
        stPvDepth := s.pvSp }) ∧
    (usesSharedStack s → StackInv s → ∃ (i : Nat) (P V : Reg Mat4),
      (i : Int) = ((s.pvSp : Int) - n.toInt) % (s.params.pvStackSlots : Int) ∧
      s.posStack[i]? = some P ∧ s.vecStack[i]? = some V ∧
      exec (.mtxPop n) s = .next { s with
        pos := selected s P
        vec := selected s V
        pvSp := i
        err := s.err || decide ((s.pvSp : Int) - n.toInt < 0 ∨ (s.params.pvStackSlots : Int) ≤ (s.pvSp : Int) - n.toInt)
        stProjDepth := s.projSp
        stPvDepth := i })

/-- R176, R177: MTX_STORE and MTX_RESTORE, whenever they run, move a matrix to and from a slot without moving a pointer or setting
`err`; in Projection mode the index is ignored (the spec's choice D14). -/
def Obligations.MtxStoreAndRestoreCopyASlot : Prop :=
  ∀ (n : BitVec 5) (s : State), Runs (.mtxStore n) s → Runs (.mtxRestore n) s →
    (s.mode.val = .projection →
      exec (.mtxStore n) s = .next { s with
        projStack := selected s s.proj, stProjDepth := s.projSp, stPvDepth := s.pvSp } ∧
      exec (.mtxRestore n) s = .next { s with
        proj := selected s s.projStack, stProjDepth := s.projSp, stPvDepth := s.pvSp }) ∧
    (usesSharedStack s →
      exec (.mtxStore n) s = .next { s with
        posStack := s.posStack.set n.toNat (selected s s.pos)
        vecStack := s.vecStack.set n.toNat (selected s s.vec)
        stProjDepth := s.projSp
        stPvDepth := s.pvSp } ∧
      ∀ P V : Reg Mat4, s.posStack[n.toNat]? = some P → s.vecStack[n.toNat]? = some V →
        exec (.mtxRestore n) s = .next { s with
          pos := selected s P
          vec := selected s V
          stProjDepth := s.projSp
          stPvDepth := s.pvSp })

/-- R178 to R180 with R126: whenever they run, identity and the two loads replace every target of the mode (the order of the words
is the spec's choice D9). -/
def Obligations.IdentityAndLoadsReplaceTheTargets : Prop :=
  ∀ s : State,
    (Runs .mtxIdentity s → ∃ M : Mat4, (∀ r c : Fin 4, M.get r c = if r = c then 1 else 0) ∧
      exec .mtxIdentity s = .next (targets12 s fun _ => ⟨M, s.mode.written⟩)) ∧
    (∀ a : Vector Word 16, Runs (.mtxLoad4x4 a) s →
      ∃ M : Mat4, (∀ r c : Fin 4, M.get r c = fix12 s.params a[4 * c.val + r.val]) ∧
      exec (.mtxLoad4x4 a) s = .next (targets12 s fun _ => ⟨M, s.mode.written⟩)) ∧
    (∀ a : Vector Word 12, Runs (.mtxLoad4x3 a) s → ∃ M : Mat4,
      (∀ (r : Fin 3) (c : Fin 4), M.get r.castSucc c = fix12 s.params a[3 * c.val + r.val]) ∧
      (∀ c : Fin 4, M.get 3 c = if c = 3 then 1 else 0) ∧
      exec (.mtxLoad4x3 a) s = .next (targets12 s fun _ => ⟨M, s.mode.written⟩))

/-- R181 to R183 with R126, R127: whenever they run, the three multiplies multiply every target by the operand, on the side the
configured `MUL_ORDER` names; the default is the left (the spec's choice D10, notes/assumptions/4.md). -/
def Obligations.MultipliesTakeTheConfiguredOrder : Prop :=
  Params.default.mulOrder = .operandLeft ∧
  ∀ s : State,
    (∀ a : Vector Word 16, Runs (.mtxMult4x4 a) s →
      ∃ M : Mat4, (∀ r c : Fin 4, M.get r c = fix12 s.params a[4 * c.val + r.val]) ∧
      exec (.mtxMult4x4 a) s = .next (targets12 s (product s M))) ∧
    (∀ a : Vector Word 12, Runs (.mtxMult4x3 a) s → ∃ M : Mat4,
      (∀ (r : Fin 3) (c : Fin 4), M.get r.castSucc c = fix12 s.params a[3 * c.val + r.val]) ∧
      (∀ c : Fin 4, M.get 3 c = if c = 3 then 1 else 0) ∧
      exec (.mtxMult4x3 a) s = .next (targets12 s (product s M))) ∧
    (∀ a : Vector Word 9, Runs (.mtxMult3x3 a) s → ∃ M : Mat4,
      (∀ r c : Fin 3, M.get r.castSucc c.castSucc = fix12 s.params a[3 * c.val + r.val]) ∧
      (∀ c : Fin 4, M.get 3 c = if c = 3 then 1 else 0) ∧ (∀ r : Fin 4, M.get r 3 = if r = 3 then 1 else 0) ∧
      exec (.mtxMult3x3 a) s = .next (targets12 s (product s M)))

/-- R184, R185: whenever they run, scale and translate multiply the target on the side the configured `MUL_ORDER` names (D10,
notes/assumptions/4.md), and never `vec` (D15). The operand by its entries and, in exact arithmetic, by what it does to a vertex. -/
def Obligations.ScaleAndTranslateLeaveTheVectorMatrix : Prop :=
  ∀ (x y z : Word) (s : State),
    let e : Vec4 := ⟨fix12 s.params x, fix12 s.params y, fix12 s.params z, 1⟩
    (Runs (.mtxScale x y z) s → ∃ M : Mat4, (∀ r c : Fin 4, M.get r c = if r = c then e.get r else 0) ∧
      (∀ v : Vec4, xform .exact M v = ⟨e.x * v.x, e.y * v.y, e.z * v.z, v.w⟩) ∧
      exec (.mtxScale x y z) s = .next (targets3 s (product s M))) ∧
    (Runs (.mtxTrans x y z) s → ∃ M : Mat4, (∀ r c : Fin 4, M.get r c = if c = 3 then e.get r else if r = c then 1 else 0) ∧
      (∀ v : Vec4, xform .exact M v = ⟨v.x + e.x * v.w, v.y + e.y * v.w, v.z + e.z * v.w, v.w⟩) ∧
      exec (.mtxTrans x y z) s = .next (targets3 s (product s M)))

/-- R173: after every matrix command the published depths are the pointers. -/
def Obligations.MatrixCommandsPublishTheDepths : Prop :=
  ∀ (i : Instr) (s t : State), isMatrixCommand i = true → exec i s = .next t →
    t.stProjDepth = t.projSp ∧ t.stPvDepth = t.pvSp

/-- The source's stack property (R174), for any configured depth, by default 31 (another depth is the model's reading of the rule,
notes/assumptions/23.md): whenever a push runs, from an empty shared stack that many pushes succeed
without error, and one more sets the flag and leaves the depth. -/
def Obligations.ThirtyOnePushesFitTheStack : Prop :=
  Params.default.pvStackDepth = 31 ∧
  ∀ s : State, Runs .mtxPush s → ConfigInv s.params → StackInv s → usesSharedStack s → s.pvSp = 0 → s.err = false →
    let d := s.params.pvStackDepth
    (∀ k, k ≤ d → ∃ t, runPushes k s = .next t ∧ t.pvSp = k ∧ t.err = false ∧
      ∀ i, (i < k → t.posStack[i]? = some (selected s s.pos) ∧ t.vecStack[i]? = some (selected s s.vec)) ∧
        (k ≤ i → t.posStack[i]? = s.posStack[i]? ∧ t.vecStack[i]? = s.vecStack[i]?)) ∧
    ∃ t u, runPushes d s = .next t ∧ runPushes (d + 1) s = .next u ∧ u.pvSp = d ∧ u.err = true ∧
      u.posStack = t.posStack ∧ u.vecStack = t.vecStack

/-- R192: whenever a pop runs, popping by N within the stack and pushing N times restores the pointer without an error; the slots
popped over hold the popped pair, and the others keep theirs. (With the default depth the pointer never exceeds it; another is the
model's reading, notes/assumptions/23.md.) -/
def Obligations.PopThenPushesRestoreThePointer : Prop :=
  ∀ (n : BitVec 6) (s : State), Runs (.mtxPop n) s → StackInv s → usesSharedStack s → s.pvSp ≤ s.params.pvStackDepth →
    1 ≤ n.toInt → n.toInt ≤ s.pvSp →
    ∃ (u t : State) (b : Nat) (P V : Reg Mat4), (b : Int) = s.pvSp - n.toInt ∧
      s.posStack[b]? = some P ∧ s.vecStack[b]? = some V ∧ exec (.mtxPop n) s = .next u ∧
      u.pos = selected s P ∧ u.vec = selected s V ∧ u.err = s.err ∧
      runPushes n.toNat u = .next t ∧ t.pvSp = s.pvSp ∧ t.err = s.err ∧ t.pos = u.pos ∧ t.vec = u.vec ∧
      ∀ i : Nat,
        (b ≤ i ∧ i < s.pvSp → t.posStack[i]? = some (selected s P) ∧ t.vecStack[i]? = some (selected s V)) ∧
        (i < b ∨ s.pvSp ≤ i → t.posStack[i]? = s.posStack[i]? ∧ t.vecStack[i]? = s.vecStack[i]?)

/-! Who may write what: rules over all commands. -/

/-- R28, R29, R31, R32, R41: the matrix mode, the current matrices, the stacks, their pointers and the depths are written by matrix
commands only. -/
def Obligations.OnlyMatrixCommandsWriteTheMatrices : Prop :=
  ∀ (i : Instr) (s t : State), isMatrixCommand i = false → exec i s = .next t →
    t.mode = s.mode ∧ t.proj = s.proj ∧ t.pos = s.pos ∧ t.vec = s.vec ∧
    t.projStack = s.projStack ∧ t.projSp = s.projSp ∧ t.posStack = s.posStack ∧ t.vecStack = s.vecStack ∧
    t.pvSp = s.pvSp ∧ t.stProjDepth = s.stProjDepth ∧ t.stPvDepth = s.stPvDepth ∧ t.err = s.err

/-- R30, R191, R42: the clip matrix and the two snapshots change only at BEGIN_VTXS and POS_TEST; the position result only at
POS_TEST; the box-test flag only at BOX_TEST. -/
def Obligations.ClipIsRecomputedOnlyAtBeginAndPosTest : Prop :=
  ∀ (i : Instr) (s t : State), exec i s = .next t →
    (recomputesClip i = false → t.clip = s.clip ∧ t.posmtxResult = s.posmtxResult ∧ t.vecmtxResult = s.vecmtxResult) ∧
    ((∀ x y z, i ≠ .posTest x y z) → t.posResult = s.posResult) ∧
    ((∀ p q r, i ≠ .boxTest p q r) → t.stBoxtest = s.stBoxtest)

/-- R33 to R38, R45: the accumulator, the primitive mode, the counter, the two stores and the frame buffer change only by the
commands the spec names, and outside SWAP_BUFFERS the stores are append-only. -/
def Obligations.FrameStateHasItsNamedWriters : Prop :=
  ∀ (i : Instr) (s t : State), exec i s = .next t →
    (isVertexCommand i = false → (∀ x y z, i ≠ .posTest x y z) → t.cur = s.cur) ∧
    ((∀ k, i ≠ .beginVtxs k) → t.prim = s.prim) ∧
    (isVertexCommand i = false → (∀ k, i ≠ .beginVtxs k) → t.cnt = s.cnt) ∧
    ((∀ p, i ≠ .swapBuffers p) → t.fb = s.fb ∧ s.vtx <+: t.vtx ∧ s.poly <+: t.poly) ∧
    (isVertexCommand i = false → (∀ p, i ≠ .swapBuffers p) → t.vtx = s.vtx ∧ t.poly = s.poly)

/-! The vertex commands and the position test (spec/43_vertex.md, spec/44_polygon.md). -/

/-- R212, R213 with R211, R219, R243 to R245: whenever they run, VTX_16 and VTX_10 write all of `cur`, then the vertex is appended
and assembled. A full store and an index before the store are the spec's choices D19 and D23. -/
def Obligations.AbsoluteVerticesAreAppended : Prop :=
  ∀ s : State,
    let f := scaled s.params
    (∀ x y z : BitVec 16, Runs (.vtx16 x y z) s →
      ∃ t, exec (.vtx16 x y z) s = .next t ∧ VertexStep s ⟨f x.toInt, f y.toInt, f z.toInt, 1⟩ true t) ∧
    (∀ x y z : BitVec 10, Runs (.vtx10 x y z) s → ∃ t, exec (.vtx10 x y z) s = .next t ∧
      VertexStep s ⟨f (x.toInt * 64), f (y.toInt * 64), f (z.toInt * 64), 1⟩ true t)

/-- R214 to R216 with R33, R211, R219, R243 to R245: whenever they run, the two-axis forms keep the third coordinate, the one `cur`
holds, and set w to 1. -/
def Obligations.TwoAxisVerticesKeepTheThird : Prop :=
  ∀ (a b : BitVec 16) (s : State),
    let f := scaled s.params
    (Runs (.vtxXy a b) s → ∃ t, exec (.vtxXy a b) s = .next t ∧ VertexStep s ⟨f a.toInt, f b.toInt, s.cur.val.z, 1⟩ s.cur.written t) ∧
    (Runs (.vtxXz a b) s → ∃ t, exec (.vtxXz a b) s = .next t ∧ VertexStep s ⟨f a.toInt, s.cur.val.y, f b.toInt, 1⟩ s.cur.written t) ∧
    (Runs (.vtxYz a b) s → ∃ t, exec (.vtxYz a b) s = .next t ∧ VertexStep s ⟨s.cur.val.x, f a.toInt, f b.toInt, 1⟩ s.cur.written t)

/-- R217, R220 with R33, R211, R219, R243 to R245: whenever it runs, VTX_DIFF adds the deltas without wrap, exactly with an exact
`NUM`, and leaves w unchanged. -/
def Obligations.DiffVertexAddsExactDeltas : Prop :=
  ∀ (dx dy dz : BitVec 10) (s : State),
    let moved (a : NUM) (d : BitVec 10) : NUM :=
      match s.params.num with
      | .exact => a + (d.toInt : ℚ) / 2 ^ s.params.fracBits
      | .other => Config.otherAdd a (scaled s.params d.toInt)
    Runs (.vtxDiff dx dy dz) s → ∃ t, exec (.vtxDiff dx dy dz) s = .next t ∧
      VertexStep s ⟨moved s.cur.val.x dx, moved s.cur.val.y dy, moved s.cur.val.z dz, s.cur.val.w⟩ s.cur.written t

/-- R218 with R190: whenever it runs, POS_TEST recomputes `clip`, overwrites `cur`, and writes the transformed position; nothing is
stored or counted (D8, D17, D21). The field `draws` is the model's own (notes/assumptions/6.md). That an Unwritten `vec` takes
the mark of an earlier Vector snapshot away is the model's choice (notes/assumptions/24.md). -/
def Obligations.PosTestWritesTheTransformedPosition : Prop :=
  ∀ (x y z : BitVec 16) (s : State),
    let v : Vec4 := ⟨scaled s.params x.toInt, scaled s.params y.toInt, scaled s.params z.toInt, 1⟩
    Runs (.posTest x y z) s → ∃ t, exec (.posTest x y z) s = .next t ∧ ClipUpdated s t ∧ t.cur = ⟨v, true⟩ ∧
      (∀ k : Fin 4, Fix12Of s.params
        ((xform s.params.num (matmul s.params.num s.proj.val s.pos.val) v).get k) t.posResult.val[k]) ∧
      t.posResult.written = (s.proj.written && s.pos.written) ∧
      t = { s with
        clip := t.clip, posmtxResult := t.posmtxResult, vecmtxResult := t.vecmtxResult,
        cur := t.cur, posResult := t.posResult, draws := t.draws }

/-- R241 with R190: whenever it runs, BEGIN_VTXS selects the primitive mode, resets the counter and recomputes the clip matrix and
the snapshots; it clears neither store (numbering D22, snapshots D17). The field `draws` is the model's own
(notes/assumptions/6.md). That an Unwritten `vec` takes
the mark of an earlier Vector snapshot away is the model's choice (notes/assumptions/24.md). -/
def Obligations.BeginVtxsResetsTheCounterAndTheClip : Prop :=
  ∀ (k : BitVec 2) (s : State), Runs (.beginVtxs k) s →
    ∃ t, exec (.beginVtxs k) s = .next t ∧ ClipUpdated s t ∧
      (k = 0 → t.prim = ⟨.triangles, true⟩) ∧ (k = 1 → t.prim = ⟨.quads, true⟩) ∧
      (k = 2 → t.prim = ⟨.triangleStrip, true⟩) ∧ (k = 3 → t.prim = ⟨.quadStrip, true⟩) ∧
      t = { s with
        prim := t.prim, cnt := 0, clip := t.clip, posmtxResult := t.posmtxResult, vecmtxResult := t.vecmtxResult,
        draws := t.draws }

/-- D17: a matrix loaded with MTX_LOAD_4x4 and snapshot by BEGIN_VTXS reads back the loaded words: in Position mode in the Position
snapshot, in PositionAndVector mode in both. It holds under the default conversion (D8) and an exact `NUM` (D7), whenever the load
runs and BEGIN_VTXS does: `proj` is written, or the treatment is the model's `run` (notes/assumptions/2.md). -/
def Obligations.LoadedMatrixReadsBackInTheSnapshot : Prop :=
  ∀ (a : Vector Word 16) (k : BitVec 2) (s : State), s.params.conversion = .truncate → s.params.num = .exact →
    Runs (.mtxLoad4x4 a) s → s.params.unwrittenUse = .run ∨ s.proj.written = true →
    (s.mode.val = .position →
      ∃ t u, exec (.mtxLoad4x4 a) s = .next t ∧ exec (.beginVtxs k) t = .next u ∧ u.posmtxResult = ⟨a, s.mode.written⟩) ∧
    (s.mode.val = .positionAndVector →
      ∃ t u, exec (.mtxLoad4x4 a) s = .next t ∧ exec (.beginVtxs k) t = .next u ∧
        u.posmtxResult = ⟨a, s.mode.written⟩ ∧ u.vecmtxResult = ⟨a, s.mode.written⟩)

/-- R243 for any number of vertices (R247 is the case of six): in Triangles mode every third vertex closes a triangle of the last
three, and no other polygon is emitted, whichever vertex commands give the vertices, as long as both stores have room (the defaults
6144 and 2048 of the capacities are the spec's choice D25, notes/assumptions/11.md) and the commands run: within the boot
requirements of R221, or under the treatment `run`, which is the model's choice (notes/assumptions/2.md). -/
def Obligations.TrianglesTakeTheVerticesInThrees : Prop :=
  ∀ (is : List Instr) (s : State), (∀ i ∈ is, isVertexCommand i = true) → VerticesRun is s →
    s.prim.val = .triangles → s.cnt = 0 →
    s.vtx.length + is.length ≤ s.params.maxVtx → s.poly.length + is.length / 3 ≤ s.params.maxPoly →
    ∃ t, runInstrs is s = .next t ∧ t.cnt = is.length ∧ t.vtx.length = s.vtx.length + is.length ∧
      t.poly = s.poly ++ (List.range (is.length / 3)).map fun k =>
        let b := s.vtx.length + 3 * k
        Polygon.tri b (b + 1) (b + 2)

/-- R243 for any number of vertices (R248 is the case of five): in TriangleStrip mode every vertex from the third on closes a
triangle with the two before it, with alternating winding, whichever vertex commands give the vertices, as long as both stores have
room (D25, notes/assumptions/11.md) and the commands run: within the boot requirements of R221, or under the treatment `run`, which is
the model's choice (notes/assumptions/2.md). -/
def Obligations.StripTrianglesShareVerticesAndAlternate : Prop :=
  ∀ (is : List Instr) (s : State), (∀ i ∈ is, isVertexCommand i = true) → VerticesRun is s →
    s.prim.val = .triangleStrip → s.cnt = 0 →
    s.vtx.length + is.length ≤ s.params.maxVtx → s.poly.length + (is.length - 2) ≤ s.params.maxPoly →
    ∃ t, runInstrs is s = .next t ∧ t.cnt = is.length ∧ t.vtx.length = s.vtx.length + is.length ∧
      t.poly = s.poly ++ (List.range (is.length - 2)).map fun k =>
        let b := s.vtx.length + k
        if k % 2 = 0 then Polygon.tri b (b + 1) (b + 2) else Polygon.tri (b + 1) b (b + 2)

/-! Swap and render (spec/45_render.md). -/

/-- R260, R262, R263: SWAP_BUFFERS replaces the frame, empties both stores, ignores its parameter and touches nothing else; with no
polygon every pixel is `PIX_CLEAR`. The ignored parameter and the unchanged `cnt` and `prim` are the spec's choice D29
(notes/assumptions/19.md, notes/assumptions/22.md), the frame size and the pixel values its choice D25
(notes/assumptions/11.md). The field `storeWritten` and the mark it gives the frame are the model's own
(notes/assumptions/2.md). -/
def Obligations.SwapReplacesTheFrameAndEmptiesTheStores : Prop :=
  ∀ (p : Word) (s : State),
    exec (.swapBuffers p) s =
      .next { s with
        fb := ⟨renderPass s.params s.vtx s.poly, s.storeWritten⟩, vtx := [], poly := [], storeWritten := true } ∧
    ∀ y x, y < s.params.fbH → x < s.params.fbW →
      (renderPass s.params s.vtx []).pixel y x = some s.params.pixClear

/-- R263 to R271 (mapping and walk: the spec's choices D24 to D28): after SWAP_BUFFERS a pixel of the frame reads `PIX_LINE` exactly
when some edge of some stored polygon lights it, and `PIX_CLEAR` otherwise; the environment reads it when no Unwritten element went
into the stores. -/
def Obligations.SwapLightsExactlyTheEdges : Prop :=
  ∀ (q : Word) (s t : State), exec (.swapBuffers q) s = .next t →
    ∀ y x : Nat, y < s.params.fbH → x < s.params.fbW →
    let lit := ∃ p ∈ s.poly, ∃ e ∈ p.edges, ∃ va vb,
      s.vtx[e.1]? = some va ∧ s.vtx[e.2]? = some vb ∧ EdgeLights s.params va vb x y
    (lit → t.fb.val.pixel y x = some s.params.pixLine) ∧ (¬lit → t.fb.val.pixel y x = some s.params.pixClear) ∧
    (s.storeWritten = true → readPixel t y x = t.fb.val.pixel y x)

/-- R269 (the spec's choice D27): the pixel set of an edge depends only on the unordered pair of its endpoints. -/
def Obligations.WalkIsSymmetric : Prop := ∀ (p : Params) (a b : Point), walk p a b = walk p b a

/-- R266 to R268, R271: an edge with a zero w, with both endpoints off the screen, or of zero length draws nothing (D27, D28). -/
def Obligations.DegenerateEdgesDrawNothing : Prop :=
  ∀ (p : Params) (F : Frame) (va vb : Vec4),
    (va.w = 0 ∨ vb.w = 0 ∨ (OffScreen p (screenOf p va) ∧ OffScreen p (screenOf p vb)) ∨ screenOf p va = screenOf p vb) →
    drawEdge p F va vb = F

/-- R272 (under D26, D27, with the default frame size): the worked example of the screen mapping and of one edge. -/
def Obligations.WorkedEdgeExample : Prop :=
  let p := Params.default
  toScreen p ⟨0, 0, 0, 1⟩ = ⟨128, 96⟩ ∧ toScreen p ⟨-1, 1, 0, 1⟩ = ⟨0, 0⟩ ∧ toScreen p ⟨1, -1, 0, 1⟩ = ⟨256, 192⟩ ∧
  Point.outside p ⟨256, 192⟩ = true ∧ toScreen p ⟨1 / 2, 1 / 2, 0, 1⟩ = ⟨192, 48⟩ ∧ toScreen p ⟨1, 1, 0, 2⟩ = ⟨192, 48⟩ ∧
  walk p ⟨128, 96⟩ ⟨192, 48⟩ = (List.range 65).map fun (i : Nat) => (⟨128 + i, (96 * 4 - 3 * i) / 4⟩ : Point)

/-! The other commands (spec/46_other.md) and the Unwritten elements (spec/70_reset_and_hazards.md). -/

/-- R242, R290 to R304, R306: these sixteen commands complete in every state and leave every state element as it is. Under any `ARITY`
they are dispatched with the words it gives them, and only removed (R290, R146, R147); where it gives fewer than the default, the
model's own field `draws` moves (notes/assumptions/14.md). -/
def Obligations.CommandsWithoutEffectLeaveTheState : Prop :=
  ∀ (i : Instr) (s : State), hasNoEffect i = true → exec i s = .next s ∧
    (i.wf = true → ∃ d : Nat,
      dispatchHead i.opcode s = .next (headRemoved (s.params.arityOf i.opcode) { s with draws := d }) ∧
      (arity i.opcode ≤ s.params.arityOf i.opcode → s.params.arityOf i.opcode ≤ s.paramq.length → d = s.draws))

/-- R305: BOX_TEST writes the box-test flag with some bit and nothing else (the spec's choice D31). The field `draws` is the
model's own (notes/assumptions/7.md). -/
def Obligations.BoxTestWritesOnlyItsFlag : Prop :=
  ∀ (p q r : Word) (s : State), ∃ b : Bool,
    exec (.boxTest p q r) s = .next { s with stBoxtest := ⟨b, true⟩, draws := s.draws + 1 }

/-- R372, R186, R190: what an Unwritten element holds never shows in an element that is written. States that differ only in the
values of Unwritten elements have outcomes that differ only there, for every command and for every step: the values of
notes/assumptions/1.md reach nothing the environment may read. Under the treatment `refuse` of U6, the default, that is so without a
condition; under the model's `run` as long as `mode`, where it is read, is written. (An Unwritten `mode` then decides which stack
pointer moves, and a pointer carries no mark, notes/assumptions/2.md.) -/
def Obligations.UnwrittenValuesDoNotLeak : Prop :=
  (∀ (i : Instr) (s s' : State), s.erase = s'.erase →
    (s.params.unwrittenUse = .run → readsMode i = true → s.mode.written = true) →
    eraseOutcome (exec i s) = eraseOutcome (exec i s')) ∧
  ∀ s s' : State, s.erase = s'.erase → (s.params.unwrittenUse = .run → s.mode.written = true) →
    eraseOutcome (step s) = eraseOutcome (step s')

/-- R372, R376, R383: an Unwritten result or frame has no value to read; after SWAP_BUFFERS the frame reads, unless a vertex of it was
made, or assembled, with an Unwritten element (R221; that such a vertex command runs, under the treatment `run`, is the model's choice,
notes/assumptions/2.md). -/
def Obligations.UnwrittenResultsHaveNoValueToRead : Prop :=
  ∀ s : State,
    (s.fb.written = false → readFrame s = none ∧ ∀ y x : Nat, readPixel s y x = none) ∧
    (s.posmtxResult.written = false → ∀ k, readPosmtx s k = none) ∧
    (s.vecmtxResult.written = false → ∀ k, readVecmtx s k = none) ∧
    (s.posResult.written = false → ∀ k, readPosResult s k = none) ∧
    (s.stBoxtest.written = false → readBoxtest s = none) ∧
    (∀ (p : Word) (t : State), exec (.swapBuffers p) s = .next t →
      readFrame t = if s.storeWritten then some (renderPass s.params s.vtx s.poly) else none) ∧
    ∀ (i : Instr) (p : Word), s.params.unwrittenUse = .run → isVertexCommand i = true → s.vtx.length < s.params.maxVtx →
      (s.clip.written = false ∨ s.prim.written = false ∨ (isRelativeVertex i = true ∧ s.cur.written = false)) →
      ∃ t u, exec i s = .next t ∧ exec (.swapBuffers p) t = .next u ∧ readFrame u = none
end

