-- ==== Sys2Proof/Laws/Arith.lean ====
section
/-! SUPPORT. Entries of vectors and matrices, and the spec lemmas of the arithmetic operations. -/

namespace Sys2Proof.Laws

open Sys2Proof.Machine

@[simp] theorem vec4_ofFn_get (f : Fin 4 → NUM) (i : Fin 4) : (Vec4.ofFn f).get i = f i := by
  fin_cases i <;> rfl

@[simp] theorem mat4_ofFn_get (f : Fin 4 → Fin 4 → NUM) (r c : Fin 4) : (Mat4.ofFn f).get r c = f r c := by
  fin_cases r <;> simp [Mat4.get, Mat4.ofFn, Mat4.row]

/-- Two vectors with the same components are equal. -/
theorem vec4_ext {u v : Vec4} (h : ∀ i, u.get i = v.get i) : u = v := by
  cases u; cases v
  simpa [Vec4.get] using ⟨h 0, h 1, h 2, h 3⟩

/-- Two matrices with the same entries are equal. -/
theorem mat4_ext {A B : Mat4} (h : ∀ r c, A.get r c = B.get r c) : A = B := by
  have row (r : Fin 4) : A.row r = B.row r := vec4_ext (h r)
  cases A; cases B
  simpa [Mat4.row] using ⟨row 0, row 1, row 2, row 3⟩

@[simp] theorem identity4_get (r c : Fin 4) : identity4.get r c = if r = c then 1 else 0 := by
  simp [identity4]

/-! The arithmetic of `NUM` when it is exact (R120). -/

@[simp] theorem exact_add (a b : NUM) : NumDomain.exact.add a b = a + b := rfl
@[simp] theorem exact_sub (a b : NUM) : NumDomain.exact.sub a b = a - b := rfl
@[simp] theorem exact_mul (a b : NUM) : NumDomain.exact.mul a b = a * b := rfl
@[simp] theorem exact_div (a b : NUM) : NumDomain.exact.div a b = a / b := rfl
@[simp] theorem exact_ofInt (i : Int) : NumDomain.exact.ofInt i = i := rfl

/-- The scale of the fixed-point formats in exact arithmetic. -/
theorem fracScale_exact {p : Params} (h : p.num = .exact) : p.fracScale = 2 ^ p.fracBits := by
  simp [Params.fracScale, h]

/-- A scaled integer in exact arithmetic (R121, R123). -/
theorem scaledInt_exact {p : Params} (h : p.num = .exact) (i : Int) : scaledInt p i = i / 2 ^ p.fracBits := by
  simp [scaledInt, fracScale_exact h, h]

@[simp] theorem default_num : Params.default.num = .exact := rfl
@[simp] theorem default_fracBits : Params.default.fracBits = 12 := rfl

@[simp] theorem row_get (M : Mat4) (r c : Fin 4) : (M.row r).get c = M.get r c := rfl
@[simp] theorem col_get (M : Mat4) (r c : Fin 4) : (M.col c).get r = M.get r c := by simp [Mat4.col]

/-- The four products and three sums of R124 and R125, by components. -/
theorem dot4_eq (k : NumDomain) (a b : Vec4) :
    dot4 k a b = k.add (k.add (k.add (k.mul (a.get 0) (b.get 0)) (k.mul (a.get 1) (b.get 1))) (k.mul (a.get 2) (b.get 2)))
      (k.mul (a.get 3) (b.get 3)) := rfl

theorem matmul_get (k : NumDomain) (A B : Mat4) (r c : Fin 4) : (matmul k A B).get r c = dot4 k (A.row r) (B.col c) := by
  simp [matmul]

theorem xform_get (k : NumDomain) (A : Mat4) (v : Vec4) (r : Fin 4) : (xform k A v).get r = dot4 k (A.row r) v := by
  simp [xform]

theorem matmul_exact_get (A B : Mat4) (r c : Fin 4) :
    (matmul .exact A B).get r c =
      A.get r 0 * B.get 0 c + A.get r 1 * B.get 1 c + A.get r 2 * B.get 2 c + A.get r 3 * B.get 3 c := by
  simp [matmul_get, dot4_eq]

theorem xform_exact_get (A : Mat4) (v : Vec4) (r : Fin 4) :
    (xform .exact A v).get r = A.get r 0 * v.get 0 + A.get r 1 * v.get 1 + A.get r 2 * v.get 2 + A.get r 3 * v.get 3 := by
  simp [xform_get, dot4_eq]

@[simp] theorem full44_get (a : Vector NUM 16) (r c : Fin 4) : (full44 a).get r c = a[4 * c.val + r.val] := by
  simp [full44]

/-- Multiplying `I4` by anything on the left of it leaves the operand (R181: multiplying by `I4` changes nothing). -/
theorem matmul_identity4_left (A : Mat4) : matmul .exact identity4 A = A := by
  refine mat4_ext fun r c => ?_
  rw [matmul_exact_get]
  fin_cases r <;> simp

theorem matmul_identity4_right (A : Mat4) : matmul .exact A identity4 = A := by
  refine mat4_ext fun r c => ?_
  rw [matmul_exact_get]
  fin_cases c <;> simp

theorem mulInto_operandLeft {p : Params} (h : p.mulOrder = .operandLeft) (M C : Mat4) : mulInto p M C = matmul p.num M C := by
  simp [mulInto, h]

theorem mulInto_operandRight {p : Params} (h : p.mulOrder = .operandRight) (M C : Mat4) : mulInto p M C = matmul p.num C M := by
  simp [mulInto, h]

theorem convert_truncate {p : Params} (h : p.conversion = .truncate) (d : Nat) (r : NUM) : convert p d r = toFix12 p d r := by
  simp [convert, h]

theorem convert_other {p : Params} (h : p.conversion = .other) (d : Nat) (r : NUM) : convert p d r = Config.otherFix12 r := by
  simp [convert, h]

/-- An element of a snapshot, by its own index (R42). -/
theorem snapshot_getElem (p : Params) (d : Nat) (M : Mat4) (k : Nat) (h : k < 16) :
    (snapshot p d M)[k] = convert p (d + k) (M.get ⟨k % 4, by omega⟩ ⟨k / 4, by omega⟩) := by
  simp [snapshot]

/-- An element of a snapshot, by row and column (R42). -/
theorem snapshot_entry (p : Params) (d : Nat) (M : Mat4) (r c : Fin 4) :
    (snapshot p d M)[4 * c.val + r.val] = convert p (d + (4 * c.val + r.val)) (M.get r c) := by
  rw [snapshot_getElem]
  congr 2
  · ext; simp
  · ext; simp; omega

/-- An element of the image of a vertex (R42). -/
@[simp] theorem fixVertex_getElem (p : Params) (d : Nat) (v : Vec4) (k : Fin 4) :
    (fixVertex p d v)[k.val] = convert p (d + k.val) (v.get k) := by
  simp [fixVertex]

/-- `sext_N` is the signed value of the field (R11). -/
theorem sext_eq_toInt {n : Nat} (v : BitVec n) : sext v = v.toInt := by
  unfold sext
  rw [BitVec.toInt_eq_toNat_cond]
  cases n with
  | zero => simp [Subsingleton.elim v 0]
  | succ n =>
    have e : 2 ^ (n + 1) = 2 * 2 ^ n := by ring
    rw [Nat.add_sub_cancel]
    by_cases h : v.toNat < 2 ^ n
    · rw [if_pos h, if_pos (by omega)]
    · rw [if_neg h, if_neg (by omega)]; simp

/-- `floor` is Mathlib's (R11). -/
theorem floorNum_eq (r : NUM) : floorNum r = ⌊r⌋ := rfl

/-- `trunc` rounds toward zero (R11). -/
theorem truncNum_eq (r : NUM) : truncNum r = if 0 ≤ r then ⌊r⌋ else ⌈r⌉ := by
  unfold truncNum
  rw [floorNum_eq, floorNum_eq, Int.floor_neg, neg_neg]

end Sys2Proof.Laws
end

