-- ==== Sys2Proof/Laws/Decode.lean ====
section
/-! SUPPORT. The opcode map, the arity table and the fields of the encodings. -/

namespace Sys2Proof.Laws

/-- The opcodes of the 38 rows are distinct: no two rows match one byte (R97). -/
theorem opcodeRows_nodup : (opcodeRows.map (·.opcode)).Nodup := by decide

/-- The bytes R98 lists are exactly those without a row in R96's map. -/
theorem isUndefinedOpcode_iff (op : Byte) :
    isUndefinedOpcode op = true ↔ (opcodeRows.find? fun r => r.opcode == op) = none := by
  have h : ∀ op : Byte, isUndefinedOpcode op = (opcodeRows.find? fun r => r.opcode == op).isNone := by decide
  simp [h op, Option.isNone_iff_eq_none]

/-- The row of an undefined opcode is the catch-all. -/
theorem opcodeRow_of_undefined {op : Byte} (h : isUndefinedOpcode op = true) : opcodeRow op = undefRow op := by
  simp [opcodeRow, (isUndefinedOpcode_iff op).1 h]

@[simp] theorem arity_of_undefined {op : Byte} (h : isUndefinedOpcode op = true) : arity op = 0 := by
  simp [arity, opcodeRow_of_undefined h, undefRow]

/-- No arity exceeds 32, the arity of SHININESS (R302). -/
theorem arity_le (op : Byte) : arity op ≤ 32 := by
  have h : ∀ op : Byte, arity op ≤ 32 := by decide
  exact h op

/-- The opcode map read as a list of pairs: the row's arity, if there is a row. -/
theorem lookup_rows (rows : List OpRow) (op : Byte) :
    (rows.map fun r => (r.opcode, r.arity)).lookup op = (rows.find? fun r => r.opcode == op).map (·.arity) := by
  induction rows with
  | nil => rfl
  | cons r rows ih =>
    rw [List.map_cons, List.lookup_cons, List.find?_cons, ih]
    by_cases h : op = r.opcode
    · simp [h]
    · simp [beq_false_of_ne h, beq_false_of_ne (Ne.symm h)]

/-- The default of the parameter `ARITY` is the table of R96. -/
@[simp] theorem default_arityOf (op : Byte) : Machine.Params.default.arityOf op = arity op := by
  simp only [Machine.Params.arityOf, Machine.Params.default, ArityTable.get, defaultArity, lookup_rows, arity, opcodeRow]
  cases opcodeRows.find? fun r => r.opcode == op <;> rfl

/-- The default capacities satisfy the constraints of R151: the bounds are never reached. -/
theorem default_capacities (op : Byte) :
    4 ≤ Machine.Params.default.cmdCap ∧ 4 * Machine.Params.default.arityOf op ≤ Machine.Params.default.paramCap := by
  have h := arity_le op
  rw [default_arityOf]
  exact ⟨by decide, show 4 * arity op ≤ 256 by omega⟩

/-- With all the words there, none is free. -/
@[simp] theorem completeParams_of_le {n : Nat} {free : Nat → Word} {P : List Word} (h : n ≤ P.length) :
    completeParams n free P = P := by
  simp [completeParams, Nat.sub_eq_zero_of_le h]

/-- Completed words are as many as the rule reads, at least. -/
theorem length_completeParams (n : Nat) (free : Nat → Word) (P : List Word) :
    (completeParams n free P).length = max n P.length := by
  simp [completeParams]; omega

/-- A command whose words are all there is the row's (R97). -/
theorem commandOf_of_le {op : Byte} {free : Nat → Word} {P : List Word} (h : arity op ≤ P.length) :
    commandOf op free P = (opcodeRow op).build P := by
  rw [commandOf, completeParams_of_le (show (opcodeRow op).arity ≤ P.length from h)]

/-- What a decoded command consumed, and when decoding succeeds (R97). -/
theorem decodeCommandBy_ok_iff {ar : Byte → Nat} {free : Nat → Word} {op : Byte} {P rest : List Word} {i : Instr} :
    decodeCommandBy ar free op P = .ok (i, rest) ↔
      ar op ≤ P.length ∧ commandOf op free (P.take (ar op)) = i ∧ P.drop (ar op) = rest := by
  unfold decodeCommandBy
  by_cases h : P.length < ar op
  · simp [h, Nat.not_le.2 h]
  · simp [h, Nat.not_lt.1 h]

theorem decodeCommandBy_error {ar : Byte → Nat} {free : Nat → Word} {op : Byte} {P : List Word} (h : P.length < ar op) :
    decodeCommandBy ar free op P = .error (.missingParameters op) := by
  simp [decodeCommandBy, h]

theorem decodeCommand_ok_iff {op : Byte} {P rest : List Word} {i : Instr} :
    decodeCommand op P = .ok (i, rest) ↔
      arity op ≤ P.length ∧ (opcodeRow op).build (P.take (arity op)) = i ∧ P.drop (arity op) = rest := by
  rw [decodeCommand, decodeCommandBy_ok_iff]
  refine and_congr_right fun h => ?_
  rw [commandOf_of_le (by simp [h])]

theorem decodeCommand_error {op : Byte} {P : List Word} (h : P.length < arity op) :
    decodeCommand op P = .error (.missingParameters op) := decodeCommandBy_error h

/-- A field reads back from where it was placed. -/
theorem bitField_placeField {n : Nat} (v : BitVec n) (lo : Nat) (h : lo + n ≤ 32) : bitField (placeField v lo) lo n = v := by
  ext k hk
  have : lo + k < 32 := by omega
  simp [bitField, placeField, this, BitVec.getLsbD_eq_getElem hk]

/-- A field is 0 where another field was placed. -/
theorem bitField_placeField_disjoint {n : Nat} (v : BitVec n) (lo lo' len : Nat) (h : lo + n ≤ lo' ∨ lo' + len ≤ lo) :
    bitField (placeField v lo) lo' len = 0 := by
  ext k hk
  simp only [bitField, placeField, BitVec.getElem_extractLsb', BitVec.getLsbD_shiftLeft, BitVec.getLsbD_setWidth]
  rcases h with h | h
  · simp [BitVec.getLsbD_of_ge v (lo' + k - lo) (by omega)]
  · simp [show lo' + k < lo by omega]

@[simp] theorem bitField_or (a b : Word) (lo len : Nat) :
    bitField (a ||| b) lo len = bitField a lo len ||| bitField b lo len := by
  ext k hk; simp [bitField]

@[simp] theorem bitField_pack16_lo (a b : BitVec 16) : bitField (pack16 a b) 0 16 = a := by
  simp [pack16, bitField_placeField, bitField_placeField_disjoint]

@[simp] theorem bitField_pack16_hi (a b : BitVec 16) : bitField (pack16 a b) 16 16 = b := by
  simp [pack16, bitField_placeField, bitField_placeField_disjoint]

@[simp] theorem bitField_pack10_x (x y z : BitVec 10) : bitField (pack10 x y z) 0 10 = x := by
  simp [pack10, bitField_placeField, bitField_placeField_disjoint]

@[simp] theorem bitField_pack10_y (x y z : BitVec 10) : bitField (pack10 x y z) 10 10 = y := by
  simp [pack10, bitField_placeField, bitField_placeField_disjoint]

@[simp] theorem bitField_pack10_z (x y z : BitVec 10) : bitField (pack10 x y z) 20 10 = z := by
  simp [pack10, bitField_placeField, bitField_placeField_disjoint]

/-- The four opcodes come out of a command word in the order they were packed (R92). -/
@[simp] theorem unpack_packOps (a b c d : Byte) : unpack (packOps a b c d) = [a, b, c, d] := by
  change [bitField _ 0 8, bitField _ 8 8, bitField _ 16 8, bitField _ 24 8] = _
  simp [packOps, bitField_placeField, bitField_placeField_disjoint]

/-- The parameter words of a vector operand read back as the vector. -/
@[simp] theorem paramVec_toList {n : Nat} (v : Vector Word n) : paramVec n v.toList = v := by
  ext k hk
  simp [paramVec, param]

end Sys2Proof.Laws
end

