-- ==== Sys2Proof/Laws/Ops.lean ====
section
/-! SUPPORT. For each shared operation, one lemma that says everything it can do: the fields it may write, in the shape of a record
update, and what it writes there. -/

namespace Sys2Proof.Laws

open Sys2Proof.Machine

@[simp] theorem reg_map_val {α β : Type} (f : α → β) (r : Reg α) : (r.map f).val = f r.val := rfl
@[simp] theorem reg_map_written {α β : Type} (f : α → β) (r : Reg α) : (r.map f).written = r.written := rfl
@[simp] theorem reg_of_val {α : Type} (v : α) : (Reg.of v).val = v := rfl
@[simp] theorem reg_of_written {α : Type} (v : α) : (Reg.of v).written = true := rfl
@[simp] theorem reg_unset_val {α : Type} (v : α) : (Reg.unset v).val = v := rfl
@[simp] theorem reg_unset_written {α : Type} (v : α) : (Reg.unset v).written = false := rfl

@[simp] theorem reg_map₂_val {α β γ : Type} (f : α → β → γ) (a : Reg α) (b : Reg β) : (Reg.map₂ f a b).val = f a.val b.val := rfl
@[simp] theorem reg_map₂_written {α β γ : Type} (f : α → β → γ) (a : Reg α) (b : Reg β) :
    (Reg.map₂ f a b).written = (a.written && b.written) := rfl
@[simp] theorem reg_selectedBy_val {α : Type} (c : Bool) (r : Reg α) : (r.selectedBy c).val = r.val := rfl
@[simp] theorem reg_selectedBy_written {α : Type} (c : Bool) (r : Reg α) :
    (r.selectedBy c).written = (r.written && c) := rfl
@[simp] theorem reg_selectedBy_true {α : Type} (r : Reg α) : r.selectedBy true = r := by simp [Reg.selectedBy]

/-- A command whose elements are ready, or that the treatment of U6 lets run, has its next state. -/
theorem ifReady_of {ready : Bool} {s : State} (t : State) (h : ready = true ∨ s.params.unwrittenUse = .run) :
    ifReady ready s t = .next t := by
  obtain rfl | h := h
  · rfl
  · cases ready <;> simp [ifReady, h]

/-- Any other is refused (U6). -/
theorem ifReady_of_not {ready : Bool} {s : State} (t : State) (h : ¬(ready = true ∨ s.params.unwrittenUse = .run)) :
    ifReady ready s t = .refused .unwritten := by
  cases ready
  · cases hu : s.params.unwrittenUse <;> simp_all [ifReady]
  · exact absurd (.inl rfl) h

/-- The targets of R171: Projection mode writes `proj`; the other modes write `pos`, and `PositionAndVector` also `vec` when the
command's row reaches it. -/
theorem mapTargets_cases (both : Bool) (f : Reg Mat4 → Reg Mat4) (s : State) :
    let g (C : Reg Mat4) : Reg Mat4 := (f C).selectedBy s.mode.written
    (s.mode.val = .projection ∧ mapTargets both f s = { s with proj := g s.proj }) ∨
    (s.mode.val = .position ∧ mapTargets both f s = { s with pos := g s.pos }) ∨
    (s.mode.val = .positionAndVector ∧
      mapTargets both f s = { s with pos := g s.pos, vec := if both then g s.vec else s.vec }) := by
  unfold mapTargets
  cases h : s.mode.val <;> simp

/-- A target operation writes nothing but the current matrices. -/
theorem mapTargets_shape (both : Bool) (f : Reg Mat4 → Reg Mat4) (s : State) :
    ∃ p q v, mapTargets both f s = { s with proj := p, pos := q, vec := v } := by
  obtain ⟨-, h⟩ | ⟨-, h⟩ | ⟨-, h⟩ := mapTargets_cases both f s <;> rw [h] <;> exact ⟨_, _, _, rfl⟩

/-- A slot that exists (R32). -/
theorem stackSlot_of_lt {stack : List (Reg Mat4)} {i : Nat} (h : Nat) (hi : i < stack.length) :
    stackSlot stack h i = stack[i] := by
  simp [stackSlot, hi]

/-- A slot that the configuration leaves out is Unwritten. -/
theorem stackSlot_of_ge {stack : List (Reg Mat4)} {i : Nat} (h : Nat) (hi : stack.length ≤ i) :
    (stackSlot stack h i).written = false := by
  simp [stackSlot, hi, Reg.unset]

/-- Reading back a slot that was set (R32). -/
theorem stackSlot_set (stack : List (Reg Mat4)) (h i j : Nat) (r : Reg Mat4) (hj : j < stack.length) :
    stackSlot (stack.set i r) h j = if i = j then r else stackSlot stack h j := by
  rw [stackSlot_of_lt h (by simpa using hj), stackSlot_of_lt h hj, List.getElem_set]

/-- A push (R174): `err` and nothing else at full depth, else a copy to the next free slot. -/
theorem pushCurrent_cases (s : State) :
    (s.mode.val = .projection ∧ s.params.projStackDepth ≤ s.projSp.val ∧ pushCurrent s = { s with err := true }) ∨
    (s.mode.val = .projection ∧ s.projSp.val < s.params.projStackDepth ∧ pushCurrent s =
      { s with projStack := s.proj.selectedBy s.mode.written, projSp := 1 }) ∨
    (s.mode.val ≠ .projection ∧ s.params.pvStackDepth ≤ s.pvSp ∧ pushCurrent s = { s with err := true }) ∨
    (s.mode.val ≠ .projection ∧ s.pvSp < s.params.pvStackDepth ∧ pushCurrent s = { s with
      posStack := s.posStack.set s.pvSp (s.pos.selectedBy s.mode.written)
      vecStack := s.vecStack.set s.pvSp (s.vec.selectedBy s.mode.written)
      pvSp := s.pvSp + 1 }) := by
  unfold pushCurrent
  cases h : s.mode.val
  · by_cases hf : s.params.projStackDepth ≤ s.projSp.val <;> simp [hf, softError, saveProjection]
    omega
  all_goals
    by_cases hf : s.params.pvStackDepth ≤ s.pvSp <;> simp [hf, softError, saveSlot]
    omega

/-- A push writes nothing but the stacks, their pointers and `err`, which it never clears; the slots keep their number. -/
theorem pushCurrent_shape (s : State) :
    ∃ a b c d e f, pushCurrent s =
        { s with projStack := a, projSp := b, posStack := c, vecStack := d, pvSp := e, err := f } ∧
      c.length = s.posStack.length ∧ d.length = s.vecStack.length ∧ (e = s.pvSp ∨ e = s.pvSp + 1 ∧ e ≤ s.params.pvStackDepth) ∧
      (s.err = true → f = true) := by
  obtain ⟨-, -, h⟩ | ⟨-, -, h⟩ | ⟨-, -, h⟩ | ⟨-, hlt, h⟩ := pushCurrent_cases s <;> rw [h] <;>
    (refine ⟨_, _, _, _, _, _, rfl, ?_, ?_, ?_, ?_⟩ <;> simp; try omega)

/-- A pop (R175): never a no-op. -/
theorem popCurrent_cases (n : Int) (s : State) :
    (s.mode.val = .projection ∧ popCurrent n s = { s with
      proj := s.projStack.selectedBy s.mode.written, projSp := 0, err := s.err || decide (s.projSp.val = 0) }) ∨
    (s.mode.val ≠ .projection ∧
      let t := (s.pvSp : Int) - n
      popCurrent n s = { s with
        pos := (posSlot s (wrapSlot s.params t)).selectedBy s.mode.written
        vec := (vecSlot s (wrapSlot s.params t)).selectedBy s.mode.written
        pvSp := wrapSlot s.params t
        err := s.err || decide (t < 0 ∨ (s.params.pvStackSlots : Int) ≤ t) }) := by
  unfold popCurrent
  cases h : s.mode.val <;> simp [softErrorIf, loadSlot, loadProjection, posSlot, vecSlot]

theorem popCurrent_shape (n : Int) (s : State) :
    ∃ a b c d e f, popCurrent n s = { s with proj := a, projSp := b, pos := c, vec := d, pvSp := e, err := f } ∧
      (e = s.pvSp ∨ e = wrapSlot s.params ((s.pvSp : Int) - n)) ∧ (s.err = true → f = true) := by
  obtain ⟨-, h⟩ | ⟨-, h⟩ := popCurrent_cases n s <;> rw [h] <;>
    exact ⟨_, _, _, _, _, _, rfl, by simp, by simp +contextual⟩

/-- A store (R176) writes nothing but the slot. -/
theorem storeCurrent_cases (i : Nat) (s : State) :
    (s.mode.val = .projection ∧ storeCurrent i s = { s with projStack := s.proj.selectedBy s.mode.written }) ∨
    (s.mode.val ≠ .projection ∧ storeCurrent i s = { s with
      posStack := s.posStack.set i (s.pos.selectedBy s.mode.written)
      vecStack := s.vecStack.set i (s.vec.selectedBy s.mode.written) }) := by
  unfold storeCurrent
  cases h : s.mode.val <;> simp [saveSlot, saveProjection]

theorem storeCurrent_shape (i : Nat) (s : State) :
    ∃ a b c, storeCurrent i s = { s with projStack := a, posStack := b, vecStack := c } ∧
      b.length = s.posStack.length ∧ c.length = s.vecStack.length := by
  obtain ⟨-, h⟩ | ⟨-, h⟩ := storeCurrent_cases i s <;> rw [h] <;> exact ⟨_, _, _, rfl, by simp, by simp⟩

/-- A restore (R177) writes nothing but the current matrices. -/
theorem restoreCurrent_cases (i : Nat) (s : State) :
    (s.mode.val = .projection ∧ restoreCurrent i s = { s with proj := s.projStack.selectedBy s.mode.written }) ∨
    (s.mode.val ≠ .projection ∧ restoreCurrent i s = { s with
      pos := (posSlot s i).selectedBy s.mode.written, vec := (vecSlot s i).selectedBy s.mode.written }) := by
  unfold restoreCurrent
  cases h : s.mode.val <;> simp [loadSlot, loadProjection]

theorem restoreCurrent_shape (i : Nat) (s : State) :
    ∃ p q v, restoreCurrent i s = { s with proj := p, pos := q, vec := v } := by
  obtain ⟨-, h⟩ | ⟨-, h⟩ := restoreCurrent_cases i s <;> rw [h] <;> exact ⟨_, _, _, rfl⟩

/-- The wrapped pointer names a slot (R128). -/
theorem wrapSlot_lt {p : Params} (h : 0 < p.pvStackSlots) (t : Int) : wrapSlot p t < p.pvStackSlots := by
  have := Int.emod_lt_of_pos t (Int.natCast_pos.2 h)
  have := Int.emod_nonneg t (Int.natCast_pos.2 h).ne'
  simp only [wrapSlot]; omega

theorem wrapSlot_val {p : Params} (h : 0 < p.pvStackSlots) (t : Int) : (wrapSlot p t : Int) = t % (p.pvStackSlots : Int) := by
  have := Int.emod_nonneg t (Int.natCast_pos.2 h).ne'
  simp only [wrapSlot]; omega

/-- An index that needs no wrap. -/
theorem wrapSlot_of_lt {p : Params} {k : Nat} (h : k < p.pvStackSlots) : wrapSlot p (k : Int) = k := by
  simp only [wrapSlot, ← Int.natCast_emod, Int.toNat_natCast, Nat.mod_eq_of_lt h]

/-- The index of a vertex that exists (R243). -/
theorem storeIndex_eq_some {n k i : Nat} : storeIndex n k = some i ↔ k < n ∧ i = n - 1 - k := by
  unfold storeIndex
  split <;> simp_all [eq_comm]

/-- The polygon a vertex emits refers to stored vertices only (R245). -/
theorem storeIndex_lt {n k i : Nat} (h : storeIndex n k = some i) : i < n := by
  rw [storeIndex_eq_some] at h; omega

/-- The assembler writes nothing but the Polygon Store, and appends at most one polygon, within the capacity. -/
theorem assemble_cases (s : State) :
    assemble s = s ∨
    ∃ p, (polygonOffsets s.prim.val s.cnt).bind (resolvePolygon s.vtx.length) = some p ∧
      s.poly.length < s.params.maxPoly ∧ assemble s = { s with poly := s.poly ++ [p] } := by
  unfold assemble
  split
  · next p hp =>
    unfold emitPolygon
    split
    · next hc => exact .inr ⟨p, hp, hc, rfl⟩
    · exact .inl rfl
  · exact .inl rfl

/-- `add_vtx` (R211, R219): a full store changes nothing; otherwise the transformed vertex is appended and counted, at most one
polygon is appended, and the stores are marked. -/
theorem addVtx_cases (s : State) :
    (s.params.maxVtx ≤ s.vtx.length ∧ addVtx s = s) ∨
    (s.vtx.length < s.params.maxVtx ∧
      ∃ q, (q = s.poly ∨ ∃ p, s.poly.length < s.params.maxPoly ∧ q = s.poly ++ [p] ∧
        (polygonOffsets s.prim.val (s.cnt + 1)).bind (resolvePolygon (s.vtx.length + 1)) = some p) ∧
      addVtx s = { s with
        vtx := s.vtx ++ [xform s.params.num s.clip.val s.cur.val], cnt := s.cnt + 1, poly := q, storeWritten := storeMark s }) := by
  unfold addVtx
  split
  · next h => exact .inl ⟨h, rfl⟩
  · next h =>
    refine .inr ⟨by omega, ?_⟩
    obtain h' | ⟨p, hp, hc, h'⟩ := assemble_cases { s with
      vtx := s.vtx ++ [xform s.params.num s.clip.val s.cur.val]
      cnt := s.cnt + 1
      storeWritten := storeMark s }
    · exact ⟨s.poly, .inl rfl, by rw [h']⟩
    · refine ⟨s.poly ++ [p], .inr ⟨p, hc, rfl, by simpa using hp⟩, by rw [h']⟩

end Sys2Proof.Laws
end

