-- ==== Sys2Proof/Laws/State.lean ====
section
/-! SUPPORT. One lemma per field for each plain update of the state, so that no proof unfolds a record update. -/

namespace Sys2Proof.Laws

open Sys2Proof.Machine

/-! `softError` -/

@[simp] theorem softError_params (s : State) : (softError s).params = s.params := rfl
@[simp] theorem softError_cmdq (s : State) : (softError s).cmdq = s.cmdq := rfl
@[simp] theorem softError_paramq (s : State) : (softError s).paramq = s.paramq := rfl
@[simp] theorem softError_owed (s : State) : (softError s).owed = s.owed := rfl
@[simp] theorem softError_fill (s : State) : (softError s).fill = s.fill := rfl
@[simp] theorem softError_mode (s : State) : (softError s).mode = s.mode := rfl
@[simp] theorem softError_proj (s : State) : (softError s).proj = s.proj := rfl
@[simp] theorem softError_pos (s : State) : (softError s).pos = s.pos := rfl
@[simp] theorem softError_vec (s : State) : (softError s).vec = s.vec := rfl
@[simp] theorem softError_clip (s : State) : (softError s).clip = s.clip := rfl
@[simp] theorem softError_projStack (s : State) : (softError s).projStack = s.projStack := rfl
@[simp] theorem softError_projSp (s : State) : (softError s).projSp = s.projSp := rfl
@[simp] theorem softError_posStack (s : State) : (softError s).posStack = s.posStack := rfl
@[simp] theorem softError_vecStack (s : State) : (softError s).vecStack = s.vecStack := rfl
@[simp] theorem softError_pvSp (s : State) : (softError s).pvSp = s.pvSp := rfl
@[simp] theorem softError_cur (s : State) : (softError s).cur = s.cur := rfl
@[simp] theorem softError_prim (s : State) : (softError s).prim = s.prim := rfl
@[simp] theorem softError_cnt (s : State) : (softError s).cnt = s.cnt := rfl
@[simp] theorem softError_vtx (s : State) : (softError s).vtx = s.vtx := rfl
@[simp] theorem softError_poly (s : State) : (softError s).poly = s.poly := rfl
@[simp] theorem softError_fb (s : State) : (softError s).fb = s.fb := rfl
@[simp] theorem softError_enEmpty (s : State) : (softError s).enEmpty = s.enEmpty := rfl
@[simp] theorem softError_enHalf (s : State) : (softError s).enHalf = s.enHalf := rfl
@[simp] theorem softError_stFill (s : State) : (softError s).stFill = s.stFill := rfl
@[simp] theorem softError_stEmpty (s : State) : (softError s).stEmpty = s.stEmpty := rfl
@[simp] theorem softError_stHalf (s : State) : (softError s).stHalf = s.stHalf := rfl
@[simp] theorem softError_irq (s : State) : (softError s).irq = s.irq := rfl
@[simp] theorem softError_stProjDepth (s : State) : (softError s).stProjDepth = s.stProjDepth := rfl
@[simp] theorem softError_stPvDepth (s : State) : (softError s).stPvDepth = s.stPvDepth := rfl
@[simp] theorem softError_err (s : State) : (softError s).err = true := rfl
@[simp] theorem softError_posmtxResult (s : State) : (softError s).posmtxResult = s.posmtxResult := rfl
@[simp] theorem softError_vecmtxResult (s : State) : (softError s).vecmtxResult = s.vecmtxResult := rfl
@[simp] theorem softError_posResult (s : State) : (softError s).posResult = s.posResult := rfl
@[simp] theorem softError_stBoxtest (s : State) : (softError s).stBoxtest = s.stBoxtest := rfl
@[simp] theorem softError_storeWritten (s : State) : (softError s).storeWritten = s.storeWritten := rfl
@[simp] theorem softError_input (s : State) : (softError s).input = s.input := rfl
@[simp] theorem softError_draws (s : State) : (softError s).draws = s.draws := rfl

/-! `softErrorIf` -/

@[simp] theorem softErrorIf_params (c : Bool) (s : State) : (softErrorIf c s).params = s.params := rfl
@[simp] theorem softErrorIf_cmdq (c : Bool) (s : State) : (softErrorIf c s).cmdq = s.cmdq := rfl
@[simp] theorem softErrorIf_paramq (c : Bool) (s : State) : (softErrorIf c s).paramq = s.paramq := rfl
@[simp] theorem softErrorIf_owed (c : Bool) (s : State) : (softErrorIf c s).owed = s.owed := rfl
@[simp] theorem softErrorIf_fill (c : Bool) (s : State) : (softErrorIf c s).fill = s.fill := rfl
@[simp] theorem softErrorIf_mode (c : Bool) (s : State) : (softErrorIf c s).mode = s.mode := rfl
@[simp] theorem softErrorIf_proj (c : Bool) (s : State) : (softErrorIf c s).proj = s.proj := rfl
@[simp] theorem softErrorIf_pos (c : Bool) (s : State) : (softErrorIf c s).pos = s.pos := rfl
@[simp] theorem softErrorIf_vec (c : Bool) (s : State) : (softErrorIf c s).vec = s.vec := rfl
@[simp] theorem softErrorIf_clip (c : Bool) (s : State) : (softErrorIf c s).clip = s.clip := rfl
@[simp] theorem softErrorIf_projStack (c : Bool) (s : State) : (softErrorIf c s).projStack = s.projStack := rfl
@[simp] theorem softErrorIf_projSp (c : Bool) (s : State) : (softErrorIf c s).projSp = s.projSp := rfl
@[simp] theorem softErrorIf_posStack (c : Bool) (s : State) : (softErrorIf c s).posStack = s.posStack := rfl
@[simp] theorem softErrorIf_vecStack (c : Bool) (s : State) : (softErrorIf c s).vecStack = s.vecStack := rfl
@[simp] theorem softErrorIf_pvSp (c : Bool) (s : State) : (softErrorIf c s).pvSp = s.pvSp := rfl
@[simp] theorem softErrorIf_cur (c : Bool) (s : State) : (softErrorIf c s).cur = s.cur := rfl
@[simp] theorem softErrorIf_prim (c : Bool) (s : State) : (softErrorIf c s).prim = s.prim := rfl
@[simp] theorem softErrorIf_cnt (c : Bool) (s : State) : (softErrorIf c s).cnt = s.cnt := rfl
@[simp] theorem softErrorIf_vtx (c : Bool) (s : State) : (softErrorIf c s).vtx = s.vtx := rfl
@[simp] theorem softErrorIf_poly (c : Bool) (s : State) : (softErrorIf c s).poly = s.poly := rfl
@[simp] theorem softErrorIf_fb (c : Bool) (s : State) : (softErrorIf c s).fb = s.fb := rfl
@[simp] theorem softErrorIf_enEmpty (c : Bool) (s : State) : (softErrorIf c s).enEmpty = s.enEmpty := rfl
@[simp] theorem softErrorIf_enHalf (c : Bool) (s : State) : (softErrorIf c s).enHalf = s.enHalf := rfl
@[simp] theorem softErrorIf_stFill (c : Bool) (s : State) : (softErrorIf c s).stFill = s.stFill := rfl
@[simp] theorem softErrorIf_stEmpty (c : Bool) (s : State) : (softErrorIf c s).stEmpty = s.stEmpty := rfl
@[simp] theorem softErrorIf_stHalf (c : Bool) (s : State) : (softErrorIf c s).stHalf = s.stHalf := rfl
@[simp] theorem softErrorIf_irq (c : Bool) (s : State) : (softErrorIf c s).irq = s.irq := rfl
@[simp] theorem softErrorIf_stProjDepth (c : Bool) (s : State) : (softErrorIf c s).stProjDepth = s.stProjDepth := rfl
@[simp] theorem softErrorIf_stPvDepth (c : Bool) (s : State) : (softErrorIf c s).stPvDepth = s.stPvDepth := rfl
@[simp] theorem softErrorIf_err (c : Bool) (s : State) : (softErrorIf c s).err = (s.err || c) := rfl
@[simp] theorem softErrorIf_posmtxResult (c : Bool) (s : State) : (softErrorIf c s).posmtxResult = s.posmtxResult := rfl
@[simp] theorem softErrorIf_vecmtxResult (c : Bool) (s : State) : (softErrorIf c s).vecmtxResult = s.vecmtxResult := rfl
@[simp] theorem softErrorIf_posResult (c : Bool) (s : State) : (softErrorIf c s).posResult = s.posResult := rfl
@[simp] theorem softErrorIf_stBoxtest (c : Bool) (s : State) : (softErrorIf c s).stBoxtest = s.stBoxtest := rfl
@[simp] theorem softErrorIf_storeWritten (c : Bool) (s : State) : (softErrorIf c s).storeWritten = s.storeWritten := rfl
@[simp] theorem softErrorIf_input (c : Bool) (s : State) : (softErrorIf c s).input = s.input := rfl
@[simp] theorem softErrorIf_draws (c : Bool) (s : State) : (softErrorIf c s).draws = s.draws := rfl

/-! `publishDepths` -/

@[simp] theorem publishDepths_params (s : State) : (publishDepths s).params = s.params := rfl
@[simp] theorem publishDepths_cmdq (s : State) : (publishDepths s).cmdq = s.cmdq := rfl
@[simp] theorem publishDepths_paramq (s : State) : (publishDepths s).paramq = s.paramq := rfl
@[simp] theorem publishDepths_owed (s : State) : (publishDepths s).owed = s.owed := rfl
@[simp] theorem publishDepths_fill (s : State) : (publishDepths s).fill = s.fill := rfl
@[simp] theorem publishDepths_mode (s : State) : (publishDepths s).mode = s.mode := rfl
@[simp] theorem publishDepths_proj (s : State) : (publishDepths s).proj = s.proj := rfl
@[simp] theorem publishDepths_pos (s : State) : (publishDepths s).pos = s.pos := rfl
@[simp] theorem publishDepths_vec (s : State) : (publishDepths s).vec = s.vec := rfl
@[simp] theorem publishDepths_clip (s : State) : (publishDepths s).clip = s.clip := rfl
@[simp] theorem publishDepths_projStack (s : State) : (publishDepths s).projStack = s.projStack := rfl
@[simp] theorem publishDepths_projSp (s : State) : (publishDepths s).projSp = s.projSp := rfl
@[simp] theorem publishDepths_posStack (s : State) : (publishDepths s).posStack = s.posStack := rfl
@[simp] theorem publishDepths_vecStack (s : State) : (publishDepths s).vecStack = s.vecStack := rfl
@[simp] theorem publishDepths_pvSp (s : State) : (publishDepths s).pvSp = s.pvSp := rfl
@[simp] theorem publishDepths_cur (s : State) : (publishDepths s).cur = s.cur := rfl
@[simp] theorem publishDepths_prim (s : State) : (publishDepths s).prim = s.prim := rfl
@[simp] theorem publishDepths_cnt (s : State) : (publishDepths s).cnt = s.cnt := rfl
@[simp] theorem publishDepths_vtx (s : State) : (publishDepths s).vtx = s.vtx := rfl
@[simp] theorem publishDepths_poly (s : State) : (publishDepths s).poly = s.poly := rfl
@[simp] theorem publishDepths_fb (s : State) : (publishDepths s).fb = s.fb := rfl
@[simp] theorem publishDepths_enEmpty (s : State) : (publishDepths s).enEmpty = s.enEmpty := rfl
@[simp] theorem publishDepths_enHalf (s : State) : (publishDepths s).enHalf = s.enHalf := rfl
@[simp] theorem publishDepths_stFill (s : State) : (publishDepths s).stFill = s.stFill := rfl
@[simp] theorem publishDepths_stEmpty (s : State) : (publishDepths s).stEmpty = s.stEmpty := rfl
@[simp] theorem publishDepths_stHalf (s : State) : (publishDepths s).stHalf = s.stHalf := rfl
@[simp] theorem publishDepths_irq (s : State) : (publishDepths s).irq = s.irq := rfl
@[simp] theorem publishDepths_stProjDepth (s : State) : (publishDepths s).stProjDepth = s.projSp := rfl
@[simp] theorem publishDepths_stPvDepth (s : State) : (publishDepths s).stPvDepth = s.pvSp := rfl
@[simp] theorem publishDepths_err (s : State) : (publishDepths s).err = s.err := rfl
@[simp] theorem publishDepths_posmtxResult (s : State) : (publishDepths s).posmtxResult = s.posmtxResult := rfl
@[simp] theorem publishDepths_vecmtxResult (s : State) : (publishDepths s).vecmtxResult = s.vecmtxResult := rfl
@[simp] theorem publishDepths_posResult (s : State) : (publishDepths s).posResult = s.posResult := rfl
@[simp] theorem publishDepths_stBoxtest (s : State) : (publishDepths s).stBoxtest = s.stBoxtest := rfl
@[simp] theorem publishDepths_storeWritten (s : State) : (publishDepths s).storeWritten = s.storeWritten := rfl
@[simp] theorem publishDepths_input (s : State) : (publishDepths s).input = s.input := rfl
@[simp] theorem publishDepths_draws (s : State) : (publishDepths s).draws = s.draws := rfl

/-! `updateStatus` -/

@[simp] theorem updateStatus_params (s : State) : (updateStatus s).params = s.params := rfl
@[simp] theorem updateStatus_cmdq (s : State) : (updateStatus s).cmdq = s.cmdq := rfl
@[simp] theorem updateStatus_paramq (s : State) : (updateStatus s).paramq = s.paramq := rfl
@[simp] theorem updateStatus_owed (s : State) : (updateStatus s).owed = s.owed := rfl
@[simp] theorem updateStatus_fill (s : State) : (updateStatus s).fill = s.fill := rfl
@[simp] theorem updateStatus_mode (s : State) : (updateStatus s).mode = s.mode := rfl
@[simp] theorem updateStatus_proj (s : State) : (updateStatus s).proj = s.proj := rfl
@[simp] theorem updateStatus_pos (s : State) : (updateStatus s).pos = s.pos := rfl
@[simp] theorem updateStatus_vec (s : State) : (updateStatus s).vec = s.vec := rfl
@[simp] theorem updateStatus_clip (s : State) : (updateStatus s).clip = s.clip := rfl
@[simp] theorem updateStatus_projStack (s : State) : (updateStatus s).projStack = s.projStack := rfl
@[simp] theorem updateStatus_projSp (s : State) : (updateStatus s).projSp = s.projSp := rfl
@[simp] theorem updateStatus_posStack (s : State) : (updateStatus s).posStack = s.posStack := rfl
@[simp] theorem updateStatus_vecStack (s : State) : (updateStatus s).vecStack = s.vecStack := rfl
@[simp] theorem updateStatus_pvSp (s : State) : (updateStatus s).pvSp = s.pvSp := rfl
@[simp] theorem updateStatus_cur (s : State) : (updateStatus s).cur = s.cur := rfl
@[simp] theorem updateStatus_prim (s : State) : (updateStatus s).prim = s.prim := rfl
@[simp] theorem updateStatus_cnt (s : State) : (updateStatus s).cnt = s.cnt := rfl
@[simp] theorem updateStatus_vtx (s : State) : (updateStatus s).vtx = s.vtx := rfl
@[simp] theorem updateStatus_poly (s : State) : (updateStatus s).poly = s.poly := rfl
@[simp] theorem updateStatus_fb (s : State) : (updateStatus s).fb = s.fb := rfl
@[simp] theorem updateStatus_enEmpty (s : State) : (updateStatus s).enEmpty = s.enEmpty := rfl
@[simp] theorem updateStatus_enHalf (s : State) : (updateStatus s).enHalf = s.enHalf := rfl
@[simp] theorem updateStatus_stFill (s : State) : (updateStatus s).stFill = s.fill := rfl
@[simp] theorem updateStatus_stEmpty (s : State) : (updateStatus s).stEmpty = isEmptyLevel s.fill := rfl
@[simp] theorem updateStatus_stHalf (s : State) : (updateStatus s).stHalf = isHalfLevel s.params.halfThreshold s.fill := rfl
@[simp] theorem updateStatus_irq (s : State) :
    (updateStatus s).irq = (s.enEmpty && isEmptyLevel s.fill || s.enHalf && isHalfLevel s.params.halfThreshold s.fill) := rfl
@[simp] theorem updateStatus_stProjDepth (s : State) : (updateStatus s).stProjDepth = s.stProjDepth := rfl
@[simp] theorem updateStatus_stPvDepth (s : State) : (updateStatus s).stPvDepth = s.stPvDepth := rfl
@[simp] theorem updateStatus_err (s : State) : (updateStatus s).err = s.err := rfl
@[simp] theorem updateStatus_posmtxResult (s : State) : (updateStatus s).posmtxResult = s.posmtxResult := rfl
@[simp] theorem updateStatus_vecmtxResult (s : State) : (updateStatus s).vecmtxResult = s.vecmtxResult := rfl
@[simp] theorem updateStatus_posResult (s : State) : (updateStatus s).posResult = s.posResult := rfl
@[simp] theorem updateStatus_stBoxtest (s : State) : (updateStatus s).stBoxtest = s.stBoxtest := rfl
@[simp] theorem updateStatus_storeWritten (s : State) : (updateStatus s).storeWritten = s.storeWritten := rfl
@[simp] theorem updateStatus_input (s : State) : (updateStatus s).input = s.input := rfl
@[simp] theorem updateStatus_draws (s : State) : (updateStatus s).draws = s.draws := rfl

/-! `saveSlot` -/

@[simp] theorem saveSlot_params (i : Nat) (s : State) : (saveSlot i s).params = s.params := rfl
@[simp] theorem saveSlot_cmdq (i : Nat) (s : State) : (saveSlot i s).cmdq = s.cmdq := rfl
@[simp] theorem saveSlot_paramq (i : Nat) (s : State) : (saveSlot i s).paramq = s.paramq := rfl
@[simp] theorem saveSlot_owed (i : Nat) (s : State) : (saveSlot i s).owed = s.owed := rfl
@[simp] theorem saveSlot_fill (i : Nat) (s : State) : (saveSlot i s).fill = s.fill := rfl
@[simp] theorem saveSlot_mode (i : Nat) (s : State) : (saveSlot i s).mode = s.mode := rfl
@[simp] theorem saveSlot_proj (i : Nat) (s : State) : (saveSlot i s).proj = s.proj := rfl
@[simp] theorem saveSlot_pos (i : Nat) (s : State) : (saveSlot i s).pos = s.pos := rfl
@[simp] theorem saveSlot_vec (i : Nat) (s : State) : (saveSlot i s).vec = s.vec := rfl
@[simp] theorem saveSlot_clip (i : Nat) (s : State) : (saveSlot i s).clip = s.clip := rfl
@[simp] theorem saveSlot_projStack (i : Nat) (s : State) : (saveSlot i s).projStack = s.projStack := rfl
@[simp] theorem saveSlot_projSp (i : Nat) (s : State) : (saveSlot i s).projSp = s.projSp := rfl
@[simp] theorem saveSlot_posStack (i : Nat) (s : State) :
    (saveSlot i s).posStack = s.posStack.set i (s.pos.selectedBy s.mode.written) := rfl
@[simp] theorem saveSlot_vecStack (i : Nat) (s : State) :
    (saveSlot i s).vecStack = s.vecStack.set i (s.vec.selectedBy s.mode.written) := rfl
@[simp] theorem saveSlot_pvSp (i : Nat) (s : State) : (saveSlot i s).pvSp = s.pvSp := rfl
@[simp] theorem saveSlot_cur (i : Nat) (s : State) : (saveSlot i s).cur = s.cur := rfl
@[simp] theorem saveSlot_prim (i : Nat) (s : State) : (saveSlot i s).prim = s.prim := rfl
@[simp] theorem saveSlot_cnt (i : Nat) (s : State) : (saveSlot i s).cnt = s.cnt := rfl
@[simp] theorem saveSlot_vtx (i : Nat) (s : State) : (saveSlot i s).vtx = s.vtx := rfl
@[simp] theorem saveSlot_poly (i : Nat) (s : State) : (saveSlot i s).poly = s.poly := rfl
@[simp] theorem saveSlot_fb (i : Nat) (s : State) : (saveSlot i s).fb = s.fb := rfl
@[simp] theorem saveSlot_enEmpty (i : Nat) (s : State) : (saveSlot i s).enEmpty = s.enEmpty := rfl
@[simp] theorem saveSlot_enHalf (i : Nat) (s : State) : (saveSlot i s).enHalf = s.enHalf := rfl
@[simp] theorem saveSlot_stFill (i : Nat) (s : State) : (saveSlot i s).stFill = s.stFill := rfl
@[simp] theorem saveSlot_stEmpty (i : Nat) (s : State) : (saveSlot i s).stEmpty = s.stEmpty := rfl
@[simp] theorem saveSlot_stHalf (i : Nat) (s : State) : (saveSlot i s).stHalf = s.stHalf := rfl
@[simp] theorem saveSlot_irq (i : Nat) (s : State) : (saveSlot i s).irq = s.irq := rfl
@[simp] theorem saveSlot_stProjDepth (i : Nat) (s : State) : (saveSlot i s).stProjDepth = s.stProjDepth := rfl
@[simp] theorem saveSlot_stPvDepth (i : Nat) (s : State) : (saveSlot i s).stPvDepth = s.stPvDepth := rfl
@[simp] theorem saveSlot_err (i : Nat) (s : State) : (saveSlot i s).err = s.err := rfl
@[simp] theorem saveSlot_posmtxResult (i : Nat) (s : State) : (saveSlot i s).posmtxResult = s.posmtxResult := rfl
@[simp] theorem saveSlot_vecmtxResult (i : Nat) (s : State) : (saveSlot i s).vecmtxResult = s.vecmtxResult := rfl
@[simp] theorem saveSlot_posResult (i : Nat) (s : State) : (saveSlot i s).posResult = s.posResult := rfl
@[simp] theorem saveSlot_stBoxtest (i : Nat) (s : State) : (saveSlot i s).stBoxtest = s.stBoxtest := rfl
@[simp] theorem saveSlot_storeWritten (i : Nat) (s : State) : (saveSlot i s).storeWritten = s.storeWritten := rfl
@[simp] theorem saveSlot_input (i : Nat) (s : State) : (saveSlot i s).input = s.input := rfl
@[simp] theorem saveSlot_draws (i : Nat) (s : State) : (saveSlot i s).draws = s.draws := rfl

/-! `loadSlot` -/

@[simp] theorem loadSlot_params (i : Nat) (s : State) : (loadSlot i s).params = s.params := rfl
@[simp] theorem loadSlot_cmdq (i : Nat) (s : State) : (loadSlot i s).cmdq = s.cmdq := rfl
@[simp] theorem loadSlot_paramq (i : Nat) (s : State) : (loadSlot i s).paramq = s.paramq := rfl
@[simp] theorem loadSlot_owed (i : Nat) (s : State) : (loadSlot i s).owed = s.owed := rfl
@[simp] theorem loadSlot_fill (i : Nat) (s : State) : (loadSlot i s).fill = s.fill := rfl
@[simp] theorem loadSlot_mode (i : Nat) (s : State) : (loadSlot i s).mode = s.mode := rfl
@[simp] theorem loadSlot_proj (i : Nat) (s : State) : (loadSlot i s).proj = s.proj := rfl
@[simp] theorem loadSlot_pos (i : Nat) (s : State) : (loadSlot i s).pos = (posSlot s i).selectedBy s.mode.written := rfl
@[simp] theorem loadSlot_vec (i : Nat) (s : State) : (loadSlot i s).vec = (vecSlot s i).selectedBy s.mode.written := rfl
@[simp] theorem loadSlot_clip (i : Nat) (s : State) : (loadSlot i s).clip = s.clip := rfl
@[simp] theorem loadSlot_projStack (i : Nat) (s : State) : (loadSlot i s).projStack = s.projStack := rfl
@[simp] theorem loadSlot_projSp (i : Nat) (s : State) : (loadSlot i s).projSp = s.projSp := rfl
@[simp] theorem loadSlot_posStack (i : Nat) (s : State) : (loadSlot i s).posStack = s.posStack := rfl
@[simp] theorem loadSlot_vecStack (i : Nat) (s : State) : (loadSlot i s).vecStack = s.vecStack := rfl
@[simp] theorem loadSlot_pvSp (i : Nat) (s : State) : (loadSlot i s).pvSp = s.pvSp := rfl
@[simp] theorem loadSlot_cur (i : Nat) (s : State) : (loadSlot i s).cur = s.cur := rfl
@[simp] theorem loadSlot_prim (i : Nat) (s : State) : (loadSlot i s).prim = s.prim := rfl
@[simp] theorem loadSlot_cnt (i : Nat) (s : State) : (loadSlot i s).cnt = s.cnt := rfl
@[simp] theorem loadSlot_vtx (i : Nat) (s : State) : (loadSlot i s).vtx = s.vtx := rfl
@[simp] theorem loadSlot_poly (i : Nat) (s : State) : (loadSlot i s).poly = s.poly := rfl
@[simp] theorem loadSlot_fb (i : Nat) (s : State) : (loadSlot i s).fb = s.fb := rfl
@[simp] theorem loadSlot_enEmpty (i : Nat) (s : State) : (loadSlot i s).enEmpty = s.enEmpty := rfl
@[simp] theorem loadSlot_enHalf (i : Nat) (s : State) : (loadSlot i s).enHalf = s.enHalf := rfl
@[simp] theorem loadSlot_stFill (i : Nat) (s : State) : (loadSlot i s).stFill = s.stFill := rfl
@[simp] theorem loadSlot_stEmpty (i : Nat) (s : State) : (loadSlot i s).stEmpty = s.stEmpty := rfl
@[simp] theorem loadSlot_stHalf (i : Nat) (s : State) : (loadSlot i s).stHalf = s.stHalf := rfl
@[simp] theorem loadSlot_irq (i : Nat) (s : State) : (loadSlot i s).irq = s.irq := rfl
@[simp] theorem loadSlot_stProjDepth (i : Nat) (s : State) : (loadSlot i s).stProjDepth = s.stProjDepth := rfl
@[simp] theorem loadSlot_stPvDepth (i : Nat) (s : State) : (loadSlot i s).stPvDepth = s.stPvDepth := rfl
@[simp] theorem loadSlot_err (i : Nat) (s : State) : (loadSlot i s).err = s.err := rfl
@[simp] theorem loadSlot_posmtxResult (i : Nat) (s : State) : (loadSlot i s).posmtxResult = s.posmtxResult := rfl
@[simp] theorem loadSlot_vecmtxResult (i : Nat) (s : State) : (loadSlot i s).vecmtxResult = s.vecmtxResult := rfl
@[simp] theorem loadSlot_posResult (i : Nat) (s : State) : (loadSlot i s).posResult = s.posResult := rfl
@[simp] theorem loadSlot_stBoxtest (i : Nat) (s : State) : (loadSlot i s).stBoxtest = s.stBoxtest := rfl
@[simp] theorem loadSlot_storeWritten (i : Nat) (s : State) : (loadSlot i s).storeWritten = s.storeWritten := rfl
@[simp] theorem loadSlot_input (i : Nat) (s : State) : (loadSlot i s).input = s.input := rfl
@[simp] theorem loadSlot_draws (i : Nat) (s : State) : (loadSlot i s).draws = s.draws := rfl

/-! `saveProjection` -/

@[simp] theorem saveProjection_params (s : State) : (saveProjection s).params = s.params := rfl
@[simp] theorem saveProjection_cmdq (s : State) : (saveProjection s).cmdq = s.cmdq := rfl
@[simp] theorem saveProjection_paramq (s : State) : (saveProjection s).paramq = s.paramq := rfl
@[simp] theorem saveProjection_owed (s : State) : (saveProjection s).owed = s.owed := rfl
@[simp] theorem saveProjection_fill (s : State) : (saveProjection s).fill = s.fill := rfl
@[simp] theorem saveProjection_mode (s : State) : (saveProjection s).mode = s.mode := rfl
@[simp] theorem saveProjection_proj (s : State) : (saveProjection s).proj = s.proj := rfl
@[simp] theorem saveProjection_pos (s : State) : (saveProjection s).pos = s.pos := rfl
@[simp] theorem saveProjection_vec (s : State) : (saveProjection s).vec = s.vec := rfl
@[simp] theorem saveProjection_clip (s : State) : (saveProjection s).clip = s.clip := rfl
@[simp] theorem saveProjection_projStack (s : State) : (saveProjection s).projStack = s.proj.selectedBy s.mode.written := rfl
@[simp] theorem saveProjection_projSp (s : State) : (saveProjection s).projSp = s.projSp := rfl
@[simp] theorem saveProjection_posStack (s : State) : (saveProjection s).posStack = s.posStack := rfl
@[simp] theorem saveProjection_vecStack (s : State) : (saveProjection s).vecStack = s.vecStack := rfl
@[simp] theorem saveProjection_pvSp (s : State) : (saveProjection s).pvSp = s.pvSp := rfl
@[simp] theorem saveProjection_cur (s : State) : (saveProjection s).cur = s.cur := rfl
@[simp] theorem saveProjection_prim (s : State) : (saveProjection s).prim = s.prim := rfl
@[simp] theorem saveProjection_cnt (s : State) : (saveProjection s).cnt = s.cnt := rfl
@[simp] theorem saveProjection_vtx (s : State) : (saveProjection s).vtx = s.vtx := rfl
@[simp] theorem saveProjection_poly (s : State) : (saveProjection s).poly = s.poly := rfl
@[simp] theorem saveProjection_fb (s : State) : (saveProjection s).fb = s.fb := rfl
@[simp] theorem saveProjection_enEmpty (s : State) : (saveProjection s).enEmpty = s.enEmpty := rfl
@[simp] theorem saveProjection_enHalf (s : State) : (saveProjection s).enHalf = s.enHalf := rfl
@[simp] theorem saveProjection_stFill (s : State) : (saveProjection s).stFill = s.stFill := rfl
@[simp] theorem saveProjection_stEmpty (s : State) : (saveProjection s).stEmpty = s.stEmpty := rfl
@[simp] theorem saveProjection_stHalf (s : State) : (saveProjection s).stHalf = s.stHalf := rfl
@[simp] theorem saveProjection_irq (s : State) : (saveProjection s).irq = s.irq := rfl
@[simp] theorem saveProjection_stProjDepth (s : State) : (saveProjection s).stProjDepth = s.stProjDepth := rfl
@[simp] theorem saveProjection_stPvDepth (s : State) : (saveProjection s).stPvDepth = s.stPvDepth := rfl
@[simp] theorem saveProjection_err (s : State) : (saveProjection s).err = s.err := rfl
@[simp] theorem saveProjection_posmtxResult (s : State) : (saveProjection s).posmtxResult = s.posmtxResult := rfl
@[simp] theorem saveProjection_vecmtxResult (s : State) : (saveProjection s).vecmtxResult = s.vecmtxResult := rfl
@[simp] theorem saveProjection_posResult (s : State) : (saveProjection s).posResult = s.posResult := rfl
@[simp] theorem saveProjection_stBoxtest (s : State) : (saveProjection s).stBoxtest = s.stBoxtest := rfl
@[simp] theorem saveProjection_storeWritten (s : State) : (saveProjection s).storeWritten = s.storeWritten := rfl
@[simp] theorem saveProjection_input (s : State) : (saveProjection s).input = s.input := rfl
@[simp] theorem saveProjection_draws (s : State) : (saveProjection s).draws = s.draws := rfl

/-! `loadProjection` -/

@[simp] theorem loadProjection_params (s : State) : (loadProjection s).params = s.params := rfl
@[simp] theorem loadProjection_cmdq (s : State) : (loadProjection s).cmdq = s.cmdq := rfl
@[simp] theorem loadProjection_paramq (s : State) : (loadProjection s).paramq = s.paramq := rfl
@[simp] theorem loadProjection_owed (s : State) : (loadProjection s).owed = s.owed := rfl
@[simp] theorem loadProjection_fill (s : State) : (loadProjection s).fill = s.fill := rfl
@[simp] theorem loadProjection_mode (s : State) : (loadProjection s).mode = s.mode := rfl
@[simp] theorem loadProjection_proj (s : State) : (loadProjection s).proj = s.projStack.selectedBy s.mode.written := rfl
@[simp] theorem loadProjection_pos (s : State) : (loadProjection s).pos = s.pos := rfl
@[simp] theorem loadProjection_vec (s : State) : (loadProjection s).vec = s.vec := rfl
@[simp] theorem loadProjection_clip (s : State) : (loadProjection s).clip = s.clip := rfl
@[simp] theorem loadProjection_projStack (s : State) : (loadProjection s).projStack = s.projStack := rfl
@[simp] theorem loadProjection_projSp (s : State) : (loadProjection s).projSp = s.projSp := rfl
@[simp] theorem loadProjection_posStack (s : State) : (loadProjection s).posStack = s.posStack := rfl
@[simp] theorem loadProjection_vecStack (s : State) : (loadProjection s).vecStack = s.vecStack := rfl
@[simp] theorem loadProjection_pvSp (s : State) : (loadProjection s).pvSp = s.pvSp := rfl
@[simp] theorem loadProjection_cur (s : State) : (loadProjection s).cur = s.cur := rfl
@[simp] theorem loadProjection_prim (s : State) : (loadProjection s).prim = s.prim := rfl
@[simp] theorem loadProjection_cnt (s : State) : (loadProjection s).cnt = s.cnt := rfl
@[simp] theorem loadProjection_vtx (s : State) : (loadProjection s).vtx = s.vtx := rfl
@[simp] theorem loadProjection_poly (s : State) : (loadProjection s).poly = s.poly := rfl
@[simp] theorem loadProjection_fb (s : State) : (loadProjection s).fb = s.fb := rfl
@[simp] theorem loadProjection_enEmpty (s : State) : (loadProjection s).enEmpty = s.enEmpty := rfl
@[simp] theorem loadProjection_enHalf (s : State) : (loadProjection s).enHalf = s.enHalf := rfl
@[simp] theorem loadProjection_stFill (s : State) : (loadProjection s).stFill = s.stFill := rfl
@[simp] theorem loadProjection_stEmpty (s : State) : (loadProjection s).stEmpty = s.stEmpty := rfl
@[simp] theorem loadProjection_stHalf (s : State) : (loadProjection s).stHalf = s.stHalf := rfl
@[simp] theorem loadProjection_irq (s : State) : (loadProjection s).irq = s.irq := rfl
@[simp] theorem loadProjection_stProjDepth (s : State) : (loadProjection s).stProjDepth = s.stProjDepth := rfl
@[simp] theorem loadProjection_stPvDepth (s : State) : (loadProjection s).stPvDepth = s.stPvDepth := rfl
@[simp] theorem loadProjection_err (s : State) : (loadProjection s).err = s.err := rfl
@[simp] theorem loadProjection_posmtxResult (s : State) : (loadProjection s).posmtxResult = s.posmtxResult := rfl
@[simp] theorem loadProjection_vecmtxResult (s : State) : (loadProjection s).vecmtxResult = s.vecmtxResult := rfl
@[simp] theorem loadProjection_posResult (s : State) : (loadProjection s).posResult = s.posResult := rfl
@[simp] theorem loadProjection_stBoxtest (s : State) : (loadProjection s).stBoxtest = s.stBoxtest := rfl
@[simp] theorem loadProjection_storeWritten (s : State) : (loadProjection s).storeWritten = s.storeWritten := rfl
@[simp] theorem loadProjection_input (s : State) : (loadProjection s).input = s.input := rfl
@[simp] theorem loadProjection_draws (s : State) : (loadProjection s).draws = s.draws := rfl

/-! `updateClip` -/

@[simp] theorem updateClip_params (s : State) : (updateClip s).params = s.params := rfl
@[simp] theorem updateClip_cmdq (s : State) : (updateClip s).cmdq = s.cmdq := rfl
@[simp] theorem updateClip_paramq (s : State) : (updateClip s).paramq = s.paramq := rfl
@[simp] theorem updateClip_owed (s : State) : (updateClip s).owed = s.owed := rfl
@[simp] theorem updateClip_fill (s : State) : (updateClip s).fill = s.fill := rfl
@[simp] theorem updateClip_mode (s : State) : (updateClip s).mode = s.mode := rfl
@[simp] theorem updateClip_proj (s : State) : (updateClip s).proj = s.proj := rfl
@[simp] theorem updateClip_pos (s : State) : (updateClip s).pos = s.pos := rfl
@[simp] theorem updateClip_vec (s : State) : (updateClip s).vec = s.vec := rfl
@[simp] theorem updateClip_clip (s : State) : (updateClip s).clip = Reg.map₂ (matmul s.params.num) s.proj s.pos := rfl
@[simp] theorem updateClip_projStack (s : State) : (updateClip s).projStack = s.projStack := rfl
@[simp] theorem updateClip_projSp (s : State) : (updateClip s).projSp = s.projSp := rfl
@[simp] theorem updateClip_posStack (s : State) : (updateClip s).posStack = s.posStack := rfl
@[simp] theorem updateClip_vecStack (s : State) : (updateClip s).vecStack = s.vecStack := rfl
@[simp] theorem updateClip_pvSp (s : State) : (updateClip s).pvSp = s.pvSp := rfl
@[simp] theorem updateClip_cur (s : State) : (updateClip s).cur = s.cur := rfl
@[simp] theorem updateClip_prim (s : State) : (updateClip s).prim = s.prim := rfl
@[simp] theorem updateClip_cnt (s : State) : (updateClip s).cnt = s.cnt := rfl
@[simp] theorem updateClip_vtx (s : State) : (updateClip s).vtx = s.vtx := rfl
@[simp] theorem updateClip_poly (s : State) : (updateClip s).poly = s.poly := rfl
@[simp] theorem updateClip_fb (s : State) : (updateClip s).fb = s.fb := rfl
@[simp] theorem updateClip_enEmpty (s : State) : (updateClip s).enEmpty = s.enEmpty := rfl
@[simp] theorem updateClip_enHalf (s : State) : (updateClip s).enHalf = s.enHalf := rfl
@[simp] theorem updateClip_stFill (s : State) : (updateClip s).stFill = s.stFill := rfl
@[simp] theorem updateClip_stEmpty (s : State) : (updateClip s).stEmpty = s.stEmpty := rfl
@[simp] theorem updateClip_stHalf (s : State) : (updateClip s).stHalf = s.stHalf := rfl
@[simp] theorem updateClip_irq (s : State) : (updateClip s).irq = s.irq := rfl
@[simp] theorem updateClip_stProjDepth (s : State) : (updateClip s).stProjDepth = s.stProjDepth := rfl
@[simp] theorem updateClip_stPvDepth (s : State) : (updateClip s).stPvDepth = s.stPvDepth := rfl
@[simp] theorem updateClip_err (s : State) : (updateClip s).err = s.err := rfl
@[simp] theorem updateClip_posmtxResult (s : State) :
    (updateClip s).posmtxResult = s.pos.map (snapshot s.params s.draws) := rfl
@[simp] theorem updateClip_vecmtxResult (s : State) :
    (updateClip s).vecmtxResult = s.vec.map (snapshot s.params (s.draws + 16)) := rfl
@[simp] theorem updateClip_posResult (s : State) : (updateClip s).posResult = s.posResult := rfl
@[simp] theorem updateClip_stBoxtest (s : State) : (updateClip s).stBoxtest = s.stBoxtest := rfl
@[simp] theorem updateClip_storeWritten (s : State) : (updateClip s).storeWritten = s.storeWritten := rfl
@[simp] theorem updateClip_input (s : State) : (updateClip s).input = s.input := rfl
@[simp] theorem updateClip_draws (s : State) : (updateClip s).draws = s.draws + 32 := rfl

/-! `enqueueOp` -/

@[simp] theorem enqueueOp_params (s : State) (op : Byte) : (enqueueOp s op).params = s.params := rfl
@[simp] theorem enqueueOp_cmdq (s : State) (op : Byte) : (enqueueOp s op).cmdq = s.cmdq ++ [op] := rfl
@[simp] theorem enqueueOp_paramq (s : State) (op : Byte) : (enqueueOp s op).paramq = s.paramq := rfl
@[simp] theorem enqueueOp_owed (s : State) (op : Byte) : (enqueueOp s op).owed = s.owed + s.params.arityOf op := rfl
@[simp] theorem enqueueOp_fill (s : State) (op : Byte) :
    (enqueueOp s op).fill = if s.params.arityOf op = 0 then s.fill + 1 else s.fill := rfl
@[simp] theorem enqueueOp_mode (s : State) (op : Byte) : (enqueueOp s op).mode = s.mode := rfl
@[simp] theorem enqueueOp_proj (s : State) (op : Byte) : (enqueueOp s op).proj = s.proj := rfl
@[simp] theorem enqueueOp_pos (s : State) (op : Byte) : (enqueueOp s op).pos = s.pos := rfl
@[simp] theorem enqueueOp_vec (s : State) (op : Byte) : (enqueueOp s op).vec = s.vec := rfl
@[simp] theorem enqueueOp_clip (s : State) (op : Byte) : (enqueueOp s op).clip = s.clip := rfl
@[simp] theorem enqueueOp_projStack (s : State) (op : Byte) : (enqueueOp s op).projStack = s.projStack := rfl
@[simp] theorem enqueueOp_projSp (s : State) (op : Byte) : (enqueueOp s op).projSp = s.projSp := rfl
@[simp] theorem enqueueOp_posStack (s : State) (op : Byte) : (enqueueOp s op).posStack = s.posStack := rfl
@[simp] theorem enqueueOp_vecStack (s : State) (op : Byte) : (enqueueOp s op).vecStack = s.vecStack := rfl
@[simp] theorem enqueueOp_pvSp (s : State) (op : Byte) : (enqueueOp s op).pvSp = s.pvSp := rfl
@[simp] theorem enqueueOp_cur (s : State) (op : Byte) : (enqueueOp s op).cur = s.cur := rfl
@[simp] theorem enqueueOp_prim (s : State) (op : Byte) : (enqueueOp s op).prim = s.prim := rfl
@[simp] theorem enqueueOp_cnt (s : State) (op : Byte) : (enqueueOp s op).cnt = s.cnt := rfl
@[simp] theorem enqueueOp_vtx (s : State) (op : Byte) : (enqueueOp s op).vtx = s.vtx := rfl
@[simp] theorem enqueueOp_poly (s : State) (op : Byte) : (enqueueOp s op).poly = s.poly := rfl
@[simp] theorem enqueueOp_fb (s : State) (op : Byte) : (enqueueOp s op).fb = s.fb := rfl
@[simp] theorem enqueueOp_enEmpty (s : State) (op : Byte) : (enqueueOp s op).enEmpty = s.enEmpty := rfl
@[simp] theorem enqueueOp_enHalf (s : State) (op : Byte) : (enqueueOp s op).enHalf = s.enHalf := rfl
@[simp] theorem enqueueOp_stFill (s : State) (op : Byte) : (enqueueOp s op).stFill = s.stFill := rfl
@[simp] theorem enqueueOp_stEmpty (s : State) (op : Byte) : (enqueueOp s op).stEmpty = s.stEmpty := rfl
@[simp] theorem enqueueOp_stHalf (s : State) (op : Byte) : (enqueueOp s op).stHalf = s.stHalf := rfl
@[simp] theorem enqueueOp_irq (s : State) (op : Byte) : (enqueueOp s op).irq = s.irq := rfl
@[simp] theorem enqueueOp_stProjDepth (s : State) (op : Byte) : (enqueueOp s op).stProjDepth = s.stProjDepth := rfl
@[simp] theorem enqueueOp_stPvDepth (s : State) (op : Byte) : (enqueueOp s op).stPvDepth = s.stPvDepth := rfl
@[simp] theorem enqueueOp_err (s : State) (op : Byte) : (enqueueOp s op).err = s.err := rfl
@[simp] theorem enqueueOp_posmtxResult (s : State) (op : Byte) : (enqueueOp s op).posmtxResult = s.posmtxResult := rfl
@[simp] theorem enqueueOp_vecmtxResult (s : State) (op : Byte) : (enqueueOp s op).vecmtxResult = s.vecmtxResult := rfl
@[simp] theorem enqueueOp_posResult (s : State) (op : Byte) : (enqueueOp s op).posResult = s.posResult := rfl
@[simp] theorem enqueueOp_stBoxtest (s : State) (op : Byte) : (enqueueOp s op).stBoxtest = s.stBoxtest := rfl
@[simp] theorem enqueueOp_storeWritten (s : State) (op : Byte) : (enqueueOp s op).storeWritten = s.storeWritten := rfl
@[simp] theorem enqueueOp_input (s : State) (op : Byte) : (enqueueOp s op).input = s.input := rfl
@[simp] theorem enqueueOp_draws (s : State) (op : Byte) : (enqueueOp s op).draws = s.draws := rfl

/-! `parameterPhase` -/

@[simp] theorem parameterPhase_params (w : Word) (s : State) : (parameterPhase w s).params = s.params := rfl
@[simp] theorem parameterPhase_cmdq (w : Word) (s : State) : (parameterPhase w s).cmdq = s.cmdq := rfl
@[simp] theorem parameterPhase_paramq (w : Word) (s : State) : (parameterPhase w s).paramq = s.paramq ++ [w] := rfl
@[simp] theorem parameterPhase_owed (w : Word) (s : State) : (parameterPhase w s).owed = s.owed - 1 := rfl
@[simp] theorem parameterPhase_fill (w : Word) (s : State) : (parameterPhase w s).fill = s.fill + 1 := rfl
@[simp] theorem parameterPhase_mode (w : Word) (s : State) : (parameterPhase w s).mode = s.mode := rfl
@[simp] theorem parameterPhase_proj (w : Word) (s : State) : (parameterPhase w s).proj = s.proj := rfl
@[simp] theorem parameterPhase_pos (w : Word) (s : State) : (parameterPhase w s).pos = s.pos := rfl
@[simp] theorem parameterPhase_vec (w : Word) (s : State) : (parameterPhase w s).vec = s.vec := rfl
@[simp] theorem parameterPhase_clip (w : Word) (s : State) : (parameterPhase w s).clip = s.clip := rfl
@[simp] theorem parameterPhase_projStack (w : Word) (s : State) : (parameterPhase w s).projStack = s.projStack := rfl
@[simp] theorem parameterPhase_projSp (w : Word) (s : State) : (parameterPhase w s).projSp = s.projSp := rfl
@[simp] theorem parameterPhase_posStack (w : Word) (s : State) : (parameterPhase w s).posStack = s.posStack := rfl
@[simp] theorem parameterPhase_vecStack (w : Word) (s : State) : (parameterPhase w s).vecStack = s.vecStack := rfl
@[simp] theorem parameterPhase_pvSp (w : Word) (s : State) : (parameterPhase w s).pvSp = s.pvSp := rfl
@[simp] theorem parameterPhase_cur (w : Word) (s : State) : (parameterPhase w s).cur = s.cur := rfl
@[simp] theorem parameterPhase_prim (w : Word) (s : State) : (parameterPhase w s).prim = s.prim := rfl
@[simp] theorem parameterPhase_cnt (w : Word) (s : State) : (parameterPhase w s).cnt = s.cnt := rfl
@[simp] theorem parameterPhase_vtx (w : Word) (s : State) : (parameterPhase w s).vtx = s.vtx := rfl
@[simp] theorem parameterPhase_poly (w : Word) (s : State) : (parameterPhase w s).poly = s.poly := rfl
@[simp] theorem parameterPhase_fb (w : Word) (s : State) : (parameterPhase w s).fb = s.fb := rfl
@[simp] theorem parameterPhase_enEmpty (w : Word) (s : State) : (parameterPhase w s).enEmpty = s.enEmpty := rfl
@[simp] theorem parameterPhase_enHalf (w : Word) (s : State) : (parameterPhase w s).enHalf = s.enHalf := rfl
@[simp] theorem parameterPhase_stFill (w : Word) (s : State) : (parameterPhase w s).stFill = s.stFill := rfl
@[simp] theorem parameterPhase_stEmpty (w : Word) (s : State) : (parameterPhase w s).stEmpty = s.stEmpty := rfl
@[simp] theorem parameterPhase_stHalf (w : Word) (s : State) : (parameterPhase w s).stHalf = s.stHalf := rfl
@[simp] theorem parameterPhase_irq (w : Word) (s : State) : (parameterPhase w s).irq = s.irq := rfl
@[simp] theorem parameterPhase_stProjDepth (w : Word) (s : State) : (parameterPhase w s).stProjDepth = s.stProjDepth := rfl
@[simp] theorem parameterPhase_stPvDepth (w : Word) (s : State) : (parameterPhase w s).stPvDepth = s.stPvDepth := rfl
@[simp] theorem parameterPhase_err (w : Word) (s : State) : (parameterPhase w s).err = s.err := rfl
@[simp] theorem parameterPhase_posmtxResult (w : Word) (s : State) : (parameterPhase w s).posmtxResult = s.posmtxResult := rfl
@[simp] theorem parameterPhase_vecmtxResult (w : Word) (s : State) : (parameterPhase w s).vecmtxResult = s.vecmtxResult := rfl
@[simp] theorem parameterPhase_posResult (w : Word) (s : State) : (parameterPhase w s).posResult = s.posResult := rfl
@[simp] theorem parameterPhase_stBoxtest (w : Word) (s : State) : (parameterPhase w s).stBoxtest = s.stBoxtest := rfl
@[simp] theorem parameterPhase_storeWritten (w : Word) (s : State) : (parameterPhase w s).storeWritten = s.storeWritten := rfl
@[simp] theorem parameterPhase_input (w : Word) (s : State) : (parameterPhase w s).input = s.input := rfl
@[simp] theorem parameterPhase_draws (w : Word) (s : State) : (parameterPhase w s).draws = s.draws := rfl

/-! `removeHead` -/

@[simp] theorem removeHead_params (n : Nat) (s : State) : (removeHead n s).params = s.params := rfl
@[simp] theorem removeHead_cmdq (n : Nat) (s : State) : (removeHead n s).cmdq = s.cmdq.tail := rfl
@[simp] theorem removeHead_paramq (n : Nat) (s : State) : (removeHead n s).paramq = s.paramq.drop n := rfl
@[simp] theorem removeHead_owed (n : Nat) (s : State) : (removeHead n s).owed = s.owed := rfl
@[simp] theorem removeHead_fill (n : Nat) (s : State) : (removeHead n s).fill = s.fill - max 1 n := rfl
@[simp] theorem removeHead_mode (n : Nat) (s : State) : (removeHead n s).mode = s.mode := rfl
@[simp] theorem removeHead_proj (n : Nat) (s : State) : (removeHead n s).proj = s.proj := rfl
@[simp] theorem removeHead_pos (n : Nat) (s : State) : (removeHead n s).pos = s.pos := rfl
@[simp] theorem removeHead_vec (n : Nat) (s : State) : (removeHead n s).vec = s.vec := rfl
@[simp] theorem removeHead_clip (n : Nat) (s : State) : (removeHead n s).clip = s.clip := rfl
@[simp] theorem removeHead_projStack (n : Nat) (s : State) : (removeHead n s).projStack = s.projStack := rfl
@[simp] theorem removeHead_projSp (n : Nat) (s : State) : (removeHead n s).projSp = s.projSp := rfl
@[simp] theorem removeHead_posStack (n : Nat) (s : State) : (removeHead n s).posStack = s.posStack := rfl
@[simp] theorem removeHead_vecStack (n : Nat) (s : State) : (removeHead n s).vecStack = s.vecStack := rfl
@[simp] theorem removeHead_pvSp (n : Nat) (s : State) : (removeHead n s).pvSp = s.pvSp := rfl
@[simp] theorem removeHead_cur (n : Nat) (s : State) : (removeHead n s).cur = s.cur := rfl
@[simp] theorem removeHead_prim (n : Nat) (s : State) : (removeHead n s).prim = s.prim := rfl
@[simp] theorem removeHead_cnt (n : Nat) (s : State) : (removeHead n s).cnt = s.cnt := rfl
@[simp] theorem removeHead_vtx (n : Nat) (s : State) : (removeHead n s).vtx = s.vtx := rfl
@[simp] theorem removeHead_poly (n : Nat) (s : State) : (removeHead n s).poly = s.poly := rfl
@[simp] theorem removeHead_fb (n : Nat) (s : State) : (removeHead n s).fb = s.fb := rfl
@[simp] theorem removeHead_enEmpty (n : Nat) (s : State) : (removeHead n s).enEmpty = s.enEmpty := rfl
@[simp] theorem removeHead_enHalf (n : Nat) (s : State) : (removeHead n s).enHalf = s.enHalf := rfl
@[simp] theorem removeHead_stFill (n : Nat) (s : State) : (removeHead n s).stFill = s.stFill := rfl
@[simp] theorem removeHead_stEmpty (n : Nat) (s : State) : (removeHead n s).stEmpty = s.stEmpty := rfl
@[simp] theorem removeHead_stHalf (n : Nat) (s : State) : (removeHead n s).stHalf = s.stHalf := rfl
@[simp] theorem removeHead_irq (n : Nat) (s : State) : (removeHead n s).irq = s.irq := rfl
@[simp] theorem removeHead_stProjDepth (n : Nat) (s : State) : (removeHead n s).stProjDepth = s.stProjDepth := rfl
@[simp] theorem removeHead_stPvDepth (n : Nat) (s : State) : (removeHead n s).stPvDepth = s.stPvDepth := rfl
@[simp] theorem removeHead_err (n : Nat) (s : State) : (removeHead n s).err = s.err := rfl
@[simp] theorem removeHead_posmtxResult (n : Nat) (s : State) : (removeHead n s).posmtxResult = s.posmtxResult := rfl
@[simp] theorem removeHead_vecmtxResult (n : Nat) (s : State) : (removeHead n s).vecmtxResult = s.vecmtxResult := rfl
@[simp] theorem removeHead_posResult (n : Nat) (s : State) : (removeHead n s).posResult = s.posResult := rfl
@[simp] theorem removeHead_stBoxtest (n : Nat) (s : State) : (removeHead n s).stBoxtest = s.stBoxtest := rfl
@[simp] theorem removeHead_storeWritten (n : Nat) (s : State) : (removeHead n s).storeWritten = s.storeWritten := rfl
@[simp] theorem removeHead_input (n : Nat) (s : State) : (removeHead n s).input = s.input := rfl
@[simp] theorem removeHead_draws (n : Nat) (s : State) : (removeHead n s).draws = s.draws := rfl

end Sys2Proof.Laws
end

