-- ==== Sys2Proof/Laws/Exec.lean ====
section
/-! SUPPORT. The inversion of `exec`, said once: what a command that completes has done. The frame and invariant lemmas cite it instead
of unfolding the meanings. -/

namespace Sys2Proof.Laws

open Sys2Proof.Machine

/-- What a command does when it completes, by the shared operations. -/
def effect (i : Instr) (s : State) : State :=
  match i with
  | .mtxMode m =>
    match matrixModeOf m with
    | some v => publishDepths { s with mode := .of v }
    | none => s
  | .mtxPush => publishDepths (pushCurrent s)
  | .mtxPop n => publishDepths (popCurrent (popCount n) s)
  | .mtxStore k => publishDepths (storeCurrent (slotIndex k) s)
  | .mtxRestore k => publishDepths (restoreCurrent (slotIndex k) s)
  | .mtxIdentity => publishDepths (loadTargets identity4 s)
  | .mtxLoad4x4 a => publishDepths (loadTargets (full44 (a.map (fix12 s.params))) s)
  | .mtxLoad4x3 a => publishDepths (loadTargets (affine43 (a.map (fix12 s.params))) s)
  | .mtxMult4x4 a => publishDepths (mulTargets (full44 (a.map (fix12 s.params))) s)
  | .mtxMult4x3 a => publishDepths (mulTargets (affine43 (a.map (fix12 s.params))) s)
  | .mtxMult3x3 a => publishDepths (mulTargets (affine33 (a.map (fix12 s.params))) s)
  | .mtxScale x y z => publishDepths (mulPosTargets (scaleMat (fix12 s.params x) (fix12 s.params y) (fix12 s.params z)) s)
  | .mtxTrans x y z => publishDepths (mulPosTargets (translateMat (fix12 s.params x) (fix12 s.params y) (fix12 s.params z)) s)
  | .vtx16 x y z => addVtx { s with cur := .of ⟨fx16 s.params x, fx16 s.params y, fx16 s.params z, 1⟩ }
  | .vtx10 x y z => addVtx { s with cur := .of ⟨fx10 s.params x, fx10 s.params y, fx10 s.params z, 1⟩ }
  | .vtxXy x y => addVtx { s with cur := s.cur.map fun v => ⟨fx16 s.params x, fx16 s.params y, v.z, 1⟩ }
  | .vtxXz x z => addVtx { s with cur := s.cur.map fun v => ⟨fx16 s.params x, v.y, fx16 s.params z, 1⟩ }
  | .vtxYz y z => addVtx { s with cur := s.cur.map fun v => ⟨v.x, fx16 s.params y, fx16 s.params z, 1⟩ }
  | .vtxDiff x y z => addVtx { s with cur := s.cur.map fun v =>
      ⟨s.params.num.add v.x (dx10 s.params x), s.params.num.add v.y (dx10 s.params y), s.params.num.add v.z (dx10 s.params z),
        v.w⟩ }
  | .posTest x y z =>
    let u := updateClip s
    let v : Vec4 := ⟨fx16 s.params x, fx16 s.params y, fx16 s.params z, 1⟩
    { u with
      cur := .of v
      posResult := u.clip.map fun M => fixVertex u.params u.draws (xform u.params.num M v)
      draws := u.draws + 4 }
  | .beginVtxs t => updateClip { s with prim := .of (primitiveModeOf t), cnt := 0 }
  | .swapBuffers _ =>
    { s with fb := ⟨renderPass s.params s.vtx s.poly, s.storeWritten⟩, vtx := [], poly := [], storeWritten := true }
  | .boxTest _ _ _ => { s with stBoxtest := .of (Config.freeBit s.draws), draws := s.draws + 1 }
  | .nop | .endVtxs | .color _ | .normal _ | .texcoord _ | .polygonAttr _ | .teximageParam _ | .plttBase _ => s
  | .difAmb _ | .speEmi _ | .lightVector _ | .lightColor _ | .shininess _ | .viewport _ | .vecTest _ | .undef _ => s

/-- The reserved mode never runs (U1). -/
theorem runs_ne {i : Instr} {s : State} (h : Runs i s) : i ≠ .mtxMode 3 := by
  rintro rfl
  obtain h | ⟨-, h⟩ := h
  · cases h
  · exact h rfl

/-- Why a command does not run: the reserved mode, or an Unwritten element under the treatment `refuse`. -/
theorem not_runs_iff {i : Instr} {s : State} :
    ¬Runs i s ↔ i = .mtxMode 3 ∨ (withinBoot i s = false ∧ s.params.unwrittenUse = .refuse) := by
  constructor
  · intro h
    by_cases hi : i = .mtxMode 3
    · exact .inl hi
    · refine .inr ⟨by simpa using fun c => h (.inl c), ?_⟩
      cases hu : s.params.unwrittenUse
      · exact absurd (.inr ⟨hu, hi⟩) h
      · rfl
  · rintro (rfl | ⟨h, hu⟩) hr
    · exact runs_ne hr rfl
    · obtain c | ⟨c, -⟩ := hr
      · rw [h] at c; cases c
      · rw [hu] at c; cases c

/-- The name under which a command that does not run is refused (U1, U6). -/
def refusalOf (i : Instr) : Refusal :=
  match i with
  | .mtxMode _ => .reservedMatrixMode
  | _ => .unwritten

/-- Every command but MTX_MODE is decided by its readiness alone. -/
theorem exec_eq_ifReady {i : Instr} (h : ∀ m, i ≠ .mtxMode m) (s : State) : exec i s = ifReady (withinBoot i s) s (effect i s) := by
  cases i with
  | mtxMode m => exact absurd rfl (h m)
  | _ => rfl

/-- A command that runs completes and has its effect. -/
theorem exec_eq_effect {i : Instr} {s : State} (h : Runs i s) : exec i s = .next (effect i s) := by
  by_cases hi : ∃ m, i = .mtxMode m
  · obtain ⟨m, rfl⟩ := hi
    have hm : m ≠ 3 := fun e => runs_ne h (by rw [e])
    have : m = 0 ∨ m = 1 ∨ m = 2 := by clear h; revert m; decide
    obtain rfl | rfl | rfl := this <;> rfl
  · rw [exec_eq_ifReady (by simpa using hi), ifReady_of _ (h.imp_right And.left)]

/-- One that does not is refused by name. -/
theorem exec_of_not_runs {i : Instr} {s : State} (h : ¬Runs i s) : exec i s = .refused (refusalOf i) := by
  by_cases hi : ∃ m, i = .mtxMode m
  · obtain ⟨m, rfl⟩ := hi
    have : m = 3 := by
      by_contra hm
      have : m = 0 ∨ m = 1 ∨ m = 2 := by clear h; revert m; decide
      obtain rfl | rfl | rfl := this <;> exact h (.inl rfl)
    subst this; rfl
  · rw [exec_eq_ifReady (by simpa using hi), ifReady_of_not]
    · cases i <;> first | rfl | exact absurd ⟨_, rfl⟩ hi
    · exact fun c => h (c.imp_right fun c => ⟨c, fun e => hi ⟨3, e⟩⟩)

/-- A command that completes runs, and has had its effect. -/
theorem exec_eq_next {i : Instr} {s t : State} (h : exec i s = .next t) : Runs i s ∧ t = effect i s := by
  by_cases hr : Runs i s
  · rw [exec_eq_effect hr] at h
    injection h with h
    exact ⟨hr, h.symm⟩
  · rw [exec_of_not_runs hr] at h; cases h

/-- A command that does not complete does not run, and says why. -/
theorem exec_eq_refused {i : Instr} {s : State} {r : Refusal} (h : exec i s = .refused r) : ¬Runs i s ∧ r = refusalOf i := by
  by_cases hr : Runs i s
  · rw [exec_eq_effect hr] at h; cases h
  · rw [exec_of_not_runs hr] at h
    injection h with h
    exact ⟨hr, h.symm⟩

/-- A vertex command writes the accumulator, appends to the two stores, counts, marks the stores, and does nothing else. -/
theorem addVtx_shape (s : State) (c : Reg Vec4) :
    ∃ v n q m, addVtx { s with cur := c } =
      { s with cur := c, vtx := s.vtx ++ v, cnt := n, poly := s.poly ++ q, storeWritten := m } := by
  obtain ⟨-, e⟩ | ⟨-, q, hq, e⟩ := addVtx_cases { s with cur := c }
  · exact ⟨[], s.cnt, [], s.storeWritten, by rw [e]; simp⟩
  · obtain rfl | ⟨p, -, rfl, -⟩ := hq
    · exact ⟨[xform s.params.num s.clip.val c.val], s.cnt + 1, [], storeMark { s with cur := c }, by rw [e]; simp⟩
    · exact ⟨[xform s.params.num s.clip.val c.val], s.cnt + 1, [p], storeMark { s with cur := c }, by rw [e]⟩

end Sys2Proof.Laws
end

