-- ==== Sys2Proof/Laws/Fifo.lean ====
section
/-! SUPPORT. How outcomes chain, one turn of the drain loop, and one step. -/

namespace Sys2Proof.Laws

open Sys2Proof.Machine

@[simp] theorem andThen_next (s : State) (f : State → Host.Outcome State Fault Refusal) : andThen (.next s) f = f s := rfl
@[simp] theorem andThen_refused (r : Refusal) (f : State → Host.Outcome State Fault Refusal) :
    andThen (.refused r) f = .refused r := rfl

/-- What a chained outcome can be: the first stops, or the second runs in its next state. -/
theorem andThen_eq_next {o : Host.Outcome State Fault Refusal} {f : State → Host.Outcome State Fault Refusal} {t : State} :
    andThen o f = .next t ↔ ∃ s, o = .next s ∧ f s = .next t := by
  cases o <;> simp [andThen]

theorem andThen_eq_refused {o : Host.Outcome State Fault Refusal} {f : State → Host.Outcome State Fault Refusal}
    {r : Refusal} : andThen o f = .refused r ↔ o = .refused r ∨ ∃ s, o = .next s ∧ f s = .refused r := by
  cases o <;> simp [andThen]

theorem andThen_assoc (o : Host.Outcome State Fault Refusal) (f g : State → Host.Outcome State Fault Refusal) :
    andThen (andThen o f) g = andThen o fun s => andThen (f s) g := by
  cases o <;> rfl

@[simp] theorem andThen_next_right (o : Host.Outcome State Fault Refusal) : andThen o .next = o := by
  cases o <;> rfl

/-- One turn of the drain loop (R146). -/
theorem drain_cons {s : State} {op : Byte} {ops : List Byte} (k : Nat) (h : s.cmdq = op :: ops) :
    drain (k + 1) s = andThen (dispatchHead op s) (drain k) := by
  simp [drain, h]

@[simp] theorem drain_nil {s : State} (k : Nat) (h : s.cmdq = []) : drain k s = .next s := by
  cases k <;> simp [drain, h]

/-- With the words the command's rule reads in the queue none is missing. -/
theorem missingWords_eq_zero {s : State} {op : Byte} (h : arity op ≤ s.params.arityOf op)
    (h' : s.params.arityOf op ≤ s.paramq.length) : missingWords op s = 0 := by
  have : (opcodeRow op).arity ≤ s.params.arityOf op := h
  simp [missingWords, headParams]; omega

/-- The dispatch of a command whose words are all there (R146, R147). -/
theorem dispatchHead_of_decode {s : State} {op : Byte} {i : Instr} {free : Nat → Word} {rest : List Word}
    (h : arity op ≤ s.params.arityOf op) (hd : decodeCommandBy s.params.arityOf free op s.paramq = .ok (i, rest)) :
    dispatchHead op s = andThen (exec i s) fun t => .next (removeHead (s.params.arityOf op) t) := by
  obtain ⟨hl, rfl, -⟩ := decodeCommandBy_ok_iff.1 hd
  have ht : arity op ≤ (s.paramq.take (s.params.arityOf op)).length := by simp; omega
  rw [dispatchHead, executeHead, missingWords_eq_zero h hl, commandOf_of_le ht, headParams, commandOf_of_le ht]
  rfl

/-- What a step can be (R14): idle, a submit, or a write of an enable. -/
theorem step_cases (s : State) :
    (s.input = [] ∧ step s = .next s) ∨
    (∃ w rest, s.input = .submit w :: rest ∧ step s = submit w { s with input := rest }) ∨
    (∃ b rest, s.input = .writeEnEmpty b :: rest ∧ step s = .next { s with input := rest, enEmpty := b }) ∨
    (∃ b rest, s.input = .writeEnHalf b :: rest ∧ step s = .next { s with input := rest, enHalf := b }) := by
  unfold step
  match h : s.input with
  | [] => simp
  | .submit w :: rest => simp [applyEvent]
  | .writeEnEmpty b :: rest => simp [applyEvent]
  | .writeEnHalf b :: rest => simp [applyEvent]

/-- No steps. -/
theorem run_zero (s : State) : Host.Core.run Sys2Proof.core 0 s = .next s := rfl

/-- One step, then the rest. -/
theorem run_succ (k : Nat) (s : State) :
    Host.Core.run Sys2Proof.core (k + 1) s = andThen (step s) fun t => Host.Core.run Sys2Proof.core k t := by
  have unfolded (M : Host.Core) (s : M.State) : Host.Core.run M (k + 1) s =
      (match M.step s with
       | .next s' => Host.Core.run M k s'
       | .fault r => .fault r
       | .refused r => .refused r) := rfl
  rw [unfolded Sys2Proof.core s]
  generalize hs : Sys2Proof.core.step s = o
  have h : step s = o := hs
  rw [h]
  cases o <;> rfl

/-- The accumulate half of a command word (R142): four opcodes appended, their arities owed, the zero-arity ones counted. -/
theorem foldl_enqueueOp (ops : List Byte) (s : State) :
    ops.foldl enqueueOp s =
      { s with
        cmdq := s.cmdq ++ ops
        owed := s.owed + (ops.map s.params.arityOf).sum
        fill := s.fill + ops.countP fun op => s.params.arityOf op = 0 } := by
  induction ops generalizing s with
  | nil => simp
  | cons op ops ih =>
    rw [List.foldl_cons, ih]
    generalize har : s.params.arityOf = ar
    simp only [enqueueOp, har, List.append_assoc, List.singleton_append, List.map_cons, List.sum_cons, List.countP_cons]
    by_cases h : ar op = 0 <;> simp [h] <;> omega

/-- Accumulating a word leaves the configuration as it is. -/
@[simp] theorem accumulate_params (w : Word) (s : State) : (accumulate w s).params = s.params := by
  unfold accumulate
  split
  · rw [commandPhase, foldl_enqueueOp]
  · rfl

/-- What every turn of a drain keeps, the drain keeps: the induction over the loop of R146, done once. -/
theorem drain_induction (P : State → Prop) (hexec : ∀ i s t, exec i s = .next t → P s → P t)
    (hdraws : ∀ d s, P s → P { s with draws := d }) (hremove : ∀ n s, P s → P (removeHead n s)) :
    ∀ k s t, drain k s = .next t → P s → P t := by
  intro k
  induction k with
  | zero => intro s t h hs; simp [drain] at h; exact h ▸ hs
  | succ k ih =>
    intro s t h hs
    cases hc : s.cmdq with
    | nil => rw [drain_nil _ hc] at h; injection h with h; exact h ▸ hs
    | cons op ops =>
      rw [drain_cons _ hc, andThen_eq_next] at h
      obtain ⟨u, hu, ht⟩ := h
      rw [dispatchHead, andThen_eq_next] at hu
      obtain ⟨v, hv, hu⟩ := hu
      injection hu with hu
      exact ih u t ht (hu ▸ hremove _ _ (hexec _ _ _ hv (hdraws _ _ hs)))

end Sys2Proof.Laws
end

