-- ==== Sys2Proof/Laws/PerInstr.lean ====
section
/-! SUPPORT. Families of facts about the commands as syntax, one lemma per constructor. `Arity`: the encoder writes as many parameter
words as the arity table says for the command's opcode (R91, R96). -/

namespace Sys2Proof.Laws.Arity

/-- The encoded parameter words are exactly as many as the arity of the opcode. -/
def Statement (i : Instr) : Prop := i.wf = true → i.params.length = arity i.opcode

theorem nop : Statement .nop := fun _ => rfl
theorem mtxMode (m : BitVec 2) : Statement (.mtxMode m) := fun _ => rfl
theorem mtxPush : Statement .mtxPush := fun _ => rfl
theorem mtxPop (n : BitVec 6) : Statement (.mtxPop n) := fun _ => rfl
theorem mtxStore (i : BitVec 5) : Statement (.mtxStore i) := fun _ => rfl
theorem mtxRestore (i : BitVec 5) : Statement (.mtxRestore i) := fun _ => rfl
theorem mtxIdentity : Statement .mtxIdentity := fun _ => rfl
theorem mtxLoad4x4 (a : Vector Word 16) : Statement (.mtxLoad4x4 a) := fun _ => Vector.length_toList
theorem mtxLoad4x3 (a : Vector Word 12) : Statement (.mtxLoad4x3 a) := fun _ => Vector.length_toList
theorem mtxMult4x4 (a : Vector Word 16) : Statement (.mtxMult4x4 a) := fun _ => Vector.length_toList
theorem mtxMult4x3 (a : Vector Word 12) : Statement (.mtxMult4x3 a) := fun _ => Vector.length_toList
theorem mtxMult3x3 (a : Vector Word 9) : Statement (.mtxMult3x3 a) := fun _ => Vector.length_toList
theorem mtxScale (sx sy sz : Word) : Statement (.mtxScale sx sy sz) := fun _ => rfl
theorem mtxTrans (tx ty tz : Word) : Statement (.mtxTrans tx ty tz) := fun _ => rfl
theorem color (p : Word) : Statement (.color p) := fun _ => rfl
theorem normal (p : Word) : Statement (.normal p) := fun _ => rfl
theorem texcoord (p : Word) : Statement (.texcoord p) := fun _ => rfl
theorem vtx16 (x y z : BitVec 16) : Statement (.vtx16 x y z) := fun _ => rfl
theorem vtx10 (x y z : BitVec 10) : Statement (.vtx10 x y z) := fun _ => rfl
theorem vtxXy (x y : BitVec 16) : Statement (.vtxXy x y) := fun _ => rfl
theorem vtxXz (x z : BitVec 16) : Statement (.vtxXz x z) := fun _ => rfl
theorem vtxYz (y z : BitVec 16) : Statement (.vtxYz y z) := fun _ => rfl
theorem vtxDiff (dx dy dz : BitVec 10) : Statement (.vtxDiff dx dy dz) := fun _ => rfl
theorem polygonAttr (p : Word) : Statement (.polygonAttr p) := fun _ => rfl
theorem teximageParam (p : Word) : Statement (.teximageParam p) := fun _ => rfl
theorem plttBase (p : Word) : Statement (.plttBase p) := fun _ => rfl
theorem difAmb (p : Word) : Statement (.difAmb p) := fun _ => rfl
theorem speEmi (p : Word) : Statement (.speEmi p) := fun _ => rfl
theorem lightVector (p : Word) : Statement (.lightVector p) := fun _ => rfl
theorem lightColor (p : Word) : Statement (.lightColor p) := fun _ => rfl
theorem shininess (p : Vector Word 32) : Statement (.shininess p) := fun _ => Vector.length_toList
theorem beginVtxs (t : BitVec 2) : Statement (.beginVtxs t) := fun _ => rfl
theorem endVtxs : Statement .endVtxs := fun _ => rfl
theorem swapBuffers (p : Word) : Statement (.swapBuffers p) := fun _ => rfl
theorem viewport (p : Word) : Statement (.viewport p) := fun _ => rfl
theorem boxTest (p0 p1 p2 : Word) : Statement (.boxTest p0 p1 p2) := fun _ => rfl
theorem posTest (x y z : BitVec 16) : Statement (.posTest x y z) := fun _ => rfl
theorem vecTest (p : Word) : Statement (.vecTest p) := fun _ => rfl
theorem undef (op : Byte) : Statement (.undef op) := fun h => (arity_of_undefined h).symm

end Sys2Proof.Laws.Arity
end

