-- ==== Sys2Proof/Laws/Render.lean ====
section
/-! SUPPORT. What plotting does to one pixel, what the frame of a render pass starts from, and that plotting keeps its size. -/

namespace Sys2Proof.Laws

open Sys2Proof.Machine

/-- A frame of `h` rows of `w` pixels (R38). -/
def Sized (p : Params) (F : Frame) : Prop := F.length = p.fbH ∧ ∀ row ∈ F, row.length = p.fbW

theorem sized_clear (p : Params) : Sized p (Frame.clear p) := by
  simp [Sized, Frame.clear]

/-- Plotting keeps the size of the frame. -/
theorem sized_plot {p : Params} {F : Frame} (h : Sized p F) (a : Point) : Sized p (plot p F a) := by
  unfold plot
  split
  · refine ⟨by simpa using h.1, fun row hr => ?_⟩
    obtain ⟨y, hy, rfl⟩ := List.getElem_of_mem hr
    rw [List.getElem_modify]
    split <;> simp [h.2]
  · exact h

theorem sized_foldl_plot {p : Params} (L : List Point) {F : Frame} (h : Sized p F) : Sized p (L.foldl (plot p) F) := by
  induction L generalizing F with
  | nil => exact h
  | cons a L ih => exact ih (sized_plot h a)

/-- A render pass answers a frame of the configured size (R263). -/
theorem sized_renderPass (p : Params) (vtx : List Vec4) (poly : List Polygon) : Sized p (renderPass p vtx poly) := by
  have edge (F : Frame) (e : Nat × Nat) (h : Sized p F) : Sized p (drawIndexedEdge p vtx F e) := by
    unfold drawIndexedEdge
    split
    · exact sized_foldl_plot _ h
    · exact h
  have edges (L : List (Nat × Nat)) (F : Frame) (h : Sized p F) : Sized p (L.foldl (drawIndexedEdge p vtx) F) := by
    induction L generalizing F with
    | nil => exact h
    | cons e L ih => exact ih _ (edge F e h)
  have polys (L : List Polygon) (F : Frame) (h : Sized p F) :
      Sized p (L.foldl (fun F q => q.edges.foldl (drawIndexedEdge p vtx) F) F) := by
    induction L generalizing F with
    | nil => exact h
    | cons q L ih => exact ih _ (edges _ F h)
  exact polys poly _ (sized_clear p)

/-- A pixel of a frame of the configured size exists exactly on the screen. -/
theorem sized_pixel {p : Params} {F : Frame} (h : Sized p F) (y x : Nat) (hy : y < p.fbH) (hx : x < p.fbW) :
    ∃ c, F.pixel y x = some c := by
  have hr : y < F.length := h.1 ▸ hy
  have hc : x < F[y].length := h.2 _ (List.getElem_mem hr) ▸ hx
  exact ⟨F[y][x], by simp [Frame.pixel, hr, hc]⟩

/-- Plotting sets exactly the named pixel, and nothing when it is off the screen (R270). -/
theorem plot_pixel {p : Params} {F : Frame} (h : Sized p F) (a : Point) (y x : Nat) (hy : y < p.fbH) (hx : x < p.fbW) :
    (plot p F a).pixel y x = if a = ⟨(x : Int), (y : Int)⟩ then some p.pixLine else F.pixel y x := by
  have hr : y < F.length := h.1 ▸ hy
  have hc : x < F[y].length := h.2 _ (List.getElem_mem hr) ▸ hx
  unfold plot
  by_cases on : 0 ≤ a.x ∧ a.x < p.fbW ∧ 0 ≤ a.y ∧ a.y < p.fbH
  · rw [if_pos on]
    by_cases e : a = ⟨(x : Int), (y : Int)⟩
    · subst e; simp [Frame.pixel, hr, hc]
    · have ne : ¬(a.x = x ∧ a.y = y) := fun c => e (by cases a; simp_all)
      rw [if_neg e]
      by_cases hy' : a.y.toNat = y
      · have hx' : a.x.toNat ≠ x := by omega
        simp [Frame.pixel, hy', hr, hx']
      · simp [Frame.pixel, hy']
  · rw [if_neg on, if_neg]
    rintro rfl
    exact on (by simp only; omega)

/-- After plotting a list of pixels a pixel is lit when it is in the list, and as it was otherwise (R263). -/
theorem foldl_plot_pixel {p : Params} (L : List Point) {F : Frame} (h : Sized p F) (y x : Nat) (hy : y < p.fbH)
    (hx : x < p.fbW) :
    (L.foldl (plot p) F).pixel y x = if ⟨(x : Int), (y : Int)⟩ ∈ L then some p.pixLine else F.pixel y x := by
  induction L generalizing F with
  | nil => simp
  | cons a L ih =>
    rw [List.foldl_cons, ih (sized_plot h a), plot_pixel h a y x hy hx]
    by_cases e : a = ⟨(x : Int), (y : Int)⟩
    · simp [e]
    · simp [e, Ne.symm e]

/-- Every pixel of a cleared frame is `PIX_CLEAR` (R263). -/
theorem clear_pixel (p : Params) (y x : Nat) (hy : y < p.fbH) (hx : x < p.fbW) :
    (Frame.clear p).pixel y x = some p.pixClear := by
  simp [Frame.clear, Frame.pixel, hy, hx]

end Sys2Proof.Laws
end

