-- ==== Sys2Proof/Tests/Slice0.lean ====
section
/-! SUPPORT. Small tests and witnesses. Expected values are the spec's own: the field tables and examples of the rules, and the
vectors of spec/95_test_vectors.md (named F, M, K, V, P, L, O, S there). -/

namespace Sys2Proof.Tests

open Sys2Proof.Machine Sys2Proof.Claims

/-! The well-formedness check: `undef op` stands for undefined opcodes only (R98). -/

theorem test_wf_refuses_undef_of_a_defined_opcode : Instr.wf (.undef 0x10) = false := by decide
theorem test_wf_refuses_undef_of_nop : Instr.wf (.undef 0x00) = false := by decide
theorem test_wf_accepts_undefined_opcodes :
    Instr.wf (.undef 0x01) = true ∧ Instr.wf (.undef 0x73) = true ∧ Instr.wf (.undef 0xFF) = true := by decide

/-! Decoding, one written-out stream for each constructor (R92, R96 and the field table of the command's rule). -/

/-- The three NOPs that pad an unpacked command word (R101). -/
def padded (i : Instr) : Except DecodeError (List Instr × List Word) := .ok ([i, .nop, .nop, .nop], [])

theorem test_decode_nop : decodeStream [0x00000000] = padded (.nop) := by decide
theorem test_decode_mtxMode : decodeStream [0x00000010, 0xFFFFFFFE] = padded (.mtxMode 2) := by decide
theorem test_decode_mtxPush : decodeStream [0x00000011] = padded (.mtxPush) := by decide
theorem test_decode_mtxPop : decodeStream [0x00000012, 0xFFFFFFC1] = padded (.mtxPop 0x01) := by decide
theorem test_decode_mtxStore : decodeStream [0x00000013, 0x00000025] = padded (.mtxStore 5) := by decide
theorem test_decode_mtxRestore : decodeStream [0x00000014, 0xFFFFFFFF] = padded (.mtxRestore 31) := by decide
theorem test_decode_mtxIdentity : decodeStream [0x00000015] = padded (.mtxIdentity) := by decide
theorem test_decode_mtxLoad4x4 :
    decodeStream [0x00000016, 0x1000, 0x2000, 0x3000, 0x4000, 0x5000, 0x6000, 0x7000, 0x8000, 0x9000, 0xA000, 0xB000, 0xC000, 0xD000, 0xE000, 0xF000, 0x10000] =
      padded (.mtxLoad4x4 #v[0x1000, 0x2000, 0x3000, 0x4000, 0x5000, 0x6000, 0x7000, 0x8000, 0x9000, 0xA000, 0xB000, 0xC000, 0xD000, 0xE000, 0xF000, 0x10000]) := by decide
theorem test_decode_mtxLoad4x3 :
    decodeStream [0x00000017, 0x1000, 0x2000, 0x3000, 0x4000, 0x5000, 0x6000, 0x7000, 0x8000, 0x9000, 0xA000, 0xB000, 0xC000] =
      padded (.mtxLoad4x3 #v[0x1000, 0x2000, 0x3000, 0x4000, 0x5000, 0x6000, 0x7000, 0x8000, 0x9000, 0xA000, 0xB000, 0xC000]) := by decide
theorem test_decode_mtxMult4x4 :
    decodeStream [0x00000018, 0x1000, 0x2000, 0x3000, 0x4000, 0x5000, 0x6000, 0x7000, 0x8000, 0x9000, 0xA000, 0xB000, 0xC000, 0xD000, 0xE000, 0xF000, 0x10000] =
      padded (.mtxMult4x4 #v[0x1000, 0x2000, 0x3000, 0x4000, 0x5000, 0x6000, 0x7000, 0x8000, 0x9000, 0xA000, 0xB000, 0xC000, 0xD000, 0xE000, 0xF000, 0x10000]) := by decide
theorem test_decode_mtxMult4x3 :
    decodeStream [0x00000019, 0x1000, 0x2000, 0x3000, 0x4000, 0x5000, 0x6000, 0x7000, 0x8000, 0x9000, 0xA000, 0xB000, 0xC000] =
      padded (.mtxMult4x3 #v[0x1000, 0x2000, 0x3000, 0x4000, 0x5000, 0x6000, 0x7000, 0x8000, 0x9000, 0xA000, 0xB000, 0xC000]) := by decide
theorem test_decode_mtxMult3x3 :
    decodeStream [0x0000001A, 0x1000, 0x2000, 0x3000, 0x4000, 0x5000, 0x6000, 0x7000, 0x8000, 0x9000] =
      padded (.mtxMult3x3 #v[0x1000, 0x2000, 0x3000, 0x4000, 0x5000, 0x6000, 0x7000, 0x8000, 0x9000]) := by decide
theorem test_decode_mtxScale : decodeStream [0x0000001B, 0x2000, 0x3000, 0x4000] = padded (.mtxScale 0x2000 0x3000 0x4000) := by decide
theorem test_decode_mtxTrans : decodeStream [0x0000001C, 0x1000, 0xFFFFF000, 0] = padded (.mtxTrans 0x1000 0xFFFFF000 0) := by decide
theorem test_decode_color : decodeStream [0x00000020, 0x00007FFF] = padded (.color 0x00007FFF) := by decide
theorem test_decode_normal : decodeStream [0x00000021, 0x00000001] = padded (.normal 0x00000001) := by decide
theorem test_decode_texcoord : decodeStream [0x00000022, 0x01000100] = padded (.texcoord 0x01000100) := by decide
theorem test_decode_vtx16 : decodeStream [0x00000023, 0x80008000, 0xFFFF7FFF] = padded (.vtx16 0x8000 0x8000 0x7FFF) := by decide
theorem test_decode_vtx10 : decodeStream [0x00000024, 0x00180200] = padded (.vtx10 0x200 0x200 0x001) := by decide
theorem test_decode_vtxXy : decodeStream [0x00000025, 0x50004000] = padded (.vtxXy 0x4000 0x5000) := by decide
theorem test_decode_vtxXz : decodeStream [0x00000026, 0x50004000] = padded (.vtxXz 0x4000 0x5000) := by decide
theorem test_decode_vtxYz : decodeStream [0x00000027, 0x50004000] = padded (.vtxYz 0x4000 0x5000) := by decide
theorem test_decode_vtxDiff : decodeStream [0x00000028, 0x1FFFFC01] = padded (.vtxDiff 0x001 0x3FF 0x1FF) := by decide
theorem test_decode_polygonAttr : decodeStream [0x00000029, 0x001F00C0] = padded (.polygonAttr 0x001F00C0) := by decide
theorem test_decode_teximageParam : decodeStream [0x0000002A, 0x00000007] = padded (.teximageParam 0x00000007) := by decide
theorem test_decode_plttBase : decodeStream [0x0000002B, 0x00000008] = padded (.plttBase 0x00000008) := by decide
theorem test_decode_difAmb : decodeStream [0x00000030, 0x00000009] = padded (.difAmb 0x00000009) := by decide
theorem test_decode_speEmi : decodeStream [0x00000031, 0x0000000A] = padded (.speEmi 0x0000000A) := by decide
theorem test_decode_lightVector : decodeStream [0x00000032, 0x0000000B] = padded (.lightVector 0x0000000B) := by decide
theorem test_decode_lightColor : decodeStream [0x00000033, 0x0000000C] = padded (.lightColor 0x0000000C) := by decide
theorem test_decode_shininess :
    decodeStream (0x00000034 :: List.replicate 32 0x00000020) = padded (.shininess (Vector.replicate 32 0x00000020)) := by decide
theorem test_decode_beginVtxs : decodeStream [0x00000040, 0xFFFFFFFE] = padded (.beginVtxs 2) := by decide
theorem test_decode_endVtxs : decodeStream [0x00000041] = padded (.endVtxs) := by decide
theorem test_decode_swapBuffers : decodeStream [0x00000050, 0x00000001] = padded (.swapBuffers 1) := by decide
theorem test_decode_viewport : decodeStream [0x00000060, 0xBFFF0000] = padded (.viewport 0xBFFF0000) := by decide
theorem test_decode_boxTest : decodeStream [0x00000070, 1, 2, 3] = padded (.boxTest 1 2 3) := by decide
theorem test_decode_posTest : decodeStream [0x00000071, 0xF0001000, 0xFFFF0800] = padded (.posTest 0x1000 0xF000 0x0800) := by decide
theorem test_decode_vecTest : decodeStream [0x00000072, 0x0000000D] = padded (.vecTest 0x0000000D) := by decide
theorem test_decode_undef : decodeStream [0x00000073] = padded (.undef 0x73) := by decide
theorem test_decode_packed_with_parameters :
    decodeStream [0x1C1B1110, 1, 0x2000, 0x3000, 0x4000, 0x1000, 0x2000, 0x3000] =
      .ok ([.mtxMode 1, .mtxPush, .mtxScale 0x2000 0x3000 0x4000, .mtxTrans 0x1000 0x2000 0x3000], []) := by decide
theorem test_decode_refuses_missing_parameters : decodeStream [0x00000023, 0x10001000] = .error (.missingParameters 0x23) := by
  decide
theorem test_decode_refuses_an_empty_stream : decodeStream [] = .error .noCommandWord := by decide
theorem test_encode_vtx16 : encode (.vtx16 0x1000 0xF000 0x7FFF) = [0x00000023, 0xF0001000, 0x00007FFF] := by decide
theorem test_encode_vtxDiff : encode (.vtxDiff 0x001 0x001 0x3FF) = [0x00000028, 0x3FF00401] := by decide

/-! One command, run on a small state. -/

/-- The next state of an outcome, if there is one. -/
def nextOf (o : Host.Outcome State Fault Refusal) : Option State :=
  match o with
  | .next s => some s
  | _ => none

/-- One field of the state after one command. -/
def after {α : Type} (i : Instr) (s : State) (field : State → α) : Option α := (nextOf (exec i s)).map field

/-- After BOOT of spec/95_test_vectors.md, in the mode `m`. -/
def booted (m : MatrixMode) : State :=
  { State.reset with mode := .of m, proj := .of identity4, pos := .of identity4, vec := .of identity4 }

/-- After BOOT and BEGIN_VTXS with the primitive mode `p`, with accumulator (1, 2, 3, 1). -/
def drawing (p : PrimitiveMode) : State :=
  { booted .positionAndVector with clip := .of identity4, prim := .of p, cur := .of ⟨1, 2, 3, 1⟩ }

/-- The matrix of a stretch and a shift, by rows. -/
def affine (sx sy sz tx ty tz : NUM) : Mat4 := ⟨⟨sx, 0, 0, tx⟩, ⟨0, sy, 0, ty⟩, ⟨0, 0, sz, tz⟩, ⟨0, 0, 0, 1⟩⟩

theorem test_mtxMode : after (.mtxMode 1) .reset (·.mode) = some (.of .position) := by decide
theorem test_mtxMode_reserved : exec (.mtxMode 3) .reset = .refused .reservedMatrixMode := rfl
/-- MTX_PUSH at and below full depth, MTX_POP below zero and by a negative count. -/
theorem test_push_and_pop :
    -- K1
    after .mtxPush { booted .position with pvSp := 31 } (fun s => (s.pvSp, s.err, s.posStack[31]?)) =
      some (31, true, some (.unset .zero)) ∧
    -- K1
    after .mtxPush { booted .position with pvSp := 30 } (fun s => (s.pvSp, s.err, s.posStack[30]?, s.stPvDepth)) =
      some (31, false, some (.of identity4), 31) ∧
    -- K3
    after (.mtxPop 1) (booted .position) (fun s => (s.pvSp, s.err, s.pos.written, s.stPvDepth)) =
      some (31, true, false, 31) ∧
    -- K5
    after (.mtxPop 0x3F) { booted .position with pvSp := 2 } (fun s => (s.pvSp, s.err)) = some (3, false) := by decide +kernel
/-- MTX_STORE, MTX_RESTORE, MTX_IDENTITY. -/
theorem test_store_restore_identity :
    after (.mtxStore 31) (booted .position) (fun s => (s.posStack[31]?, s.pvSp, s.err)) = some (some (.of identity4), 0, false) ∧
    after (.mtxRestore 7) (booted .positionAndVector) (fun s => (s.pos.written, s.vec.written, s.err)) =
      some (false, false, false) ∧
    after .mtxIdentity { booted .projection with proj := .unset .zero } (·.proj) = some (.of identity4) := by decide +kernel
/-- MTX_LOAD_4x4 and MTX_LOAD_4x3. -/
theorem test_loads :
    -- M3
    after (.mtxLoad4x4 #v[0x1000, 0x2000, 0x3000, 0x4000, 0x5000, 0x6000, 0x7000, 0x8000, 0x9000, 0xA000, 0xB000, 0xC000, 0xD000, 0xE000, 0xF000, 0x10000])
      (booted .projection) (·.proj) = some (.of ⟨⟨1, 5, 9, 13⟩, ⟨2, 6, 10, 14⟩, ⟨3, 7, 11, 15⟩, ⟨4, 8, 12, 16⟩⟩) ∧
    -- M4
    after (.mtxLoad4x3 #v[0x1000, 0x2000, 0x3000, 0x4000, 0x5000, 0x6000, 0x7000, 0x8000, 0x9000, 0xA000, 0xB000, 0xC000])
      (booted .position) (·.pos) = some (.of ⟨⟨1, 4, 7, 10⟩, ⟨2, 5, 8, 11⟩, ⟨3, 6, 9, 12⟩, ⟨0, 0, 0, 1⟩⟩) := by decide +kernel
/-- MTX_MULT_4x4 in both orders, MTX_MULT_4x3, MTX_MULT_3x3. -/
theorem test_multiplies :
    -- the example of R181
    after (.mtxMult4x4 #v[0x2000, 0, 0, 0, 0, 0x2000, 0, 0, 0, 0, 0x2000, 0, 0, 0, 0, 0x1000])
      { booted .position with pos := .of (affine 1 1 1 1 0 0) } (·.pos) = some (.of (affine 2 2 2 2 0 0)) ∧
    -- the same example under the other MUL_ORDER
    after (.mtxMult4x4 #v[0x2000, 0, 0, 0, 0, 0x2000, 0, 0, 0, 0, 0x2000, 0, 0, 0, 0, 0x1000])
      { booted .position with
      params := { Params.default with mulOrder := .operandRight }, pos := .of (affine 1 1 1 1 0 0) } (·.pos) =
      some (.of (affine 2 2 2 1 0 0)) ∧
    -- M6
    after (.mtxMult4x3 #v[0x1000, 0, 0, 0, 0x1000, 0, 0, 0, 0x1000, 0x1000, 0x1000, 0x1000])
      { booted .position with pos := .of ⟨⟨1, 4, 7, 10⟩, ⟨2, 5, 8, 11⟩, ⟨3, 6, 9, 12⟩, ⟨0, 0, 0, 1⟩⟩ } (·.pos) =
      some (.of ⟨⟨1, 4, 7, 11⟩, ⟨2, 5, 8, 12⟩, ⟨3, 6, 9, 13⟩, ⟨0, 0, 0, 1⟩⟩) ∧
    -- M2
    after (.mtxMult3x3 #v[0, 0x1000, 0, 0xFFFFF000, 0, 0, 0, 0, 0x1000])
      { booted .position with pos := .of (affine 2 3 4 0 0 0) } (·.pos) =
      some (.of ⟨⟨0, -3, 0, 0⟩, ⟨2, 0, 0, 0⟩, ⟨0, 0, 4, 0⟩, ⟨0, 0, 0, 1⟩⟩) := by decide +kernel
/-- MTX_SCALE and MTX_TRANS. -/
theorem test_scale_and_translate :
    -- M10
    after (.mtxScale 0xFFFFF800 0x00000001 0x7FFFFFFF) (booted .position) (·.pos) =
      some (.of (affine (-1 / 2) (1 / 4096) (2147483647 / 4096) 0 0 0)) ∧
    -- M7
    after (.mtxTrans 0x1000 0 0) { booted .positionAndVector with pos := .of (affine 2 2 2 0 0 0) } (fun s => (s.pos, s.vec)) =
      some (.of (affine 2 2 2 1 0 0), .of identity4) := by decide +kernel

/-- VTX_16 and VTX_10. -/
theorem test_absolute_vertices :
    -- V1
    after (.vtx16 0x1000 0xF000 0x7FFF) (drawing .triangles) (fun s => (s.cur, s.vtx, s.cnt)) =
      some (.of ⟨1, -1, 32767 / 4096, 1⟩, [⟨1, -1, 32767 / 4096, 1⟩], 1) ∧
    -- V12
    after (.vtx16 0x1000 0x1000 0x1000) { drawing .triangles with pos := .of (affine 2 2 2 0 0 0) } (·.vtx) =
      some [⟨1, 1, 1, 1⟩] ∧
    -- V3
    after (.vtx10 0x040 0x3C0 0x1FF) (drawing .triangles) (·.cur) = some (.of ⟨1, -1, 511 / 64, 1⟩) := by decide +kernel
/-- VTX_XY, VTX_XZ, VTX_YZ, VTX_DIFF. -/
theorem test_relative_vertices :
    -- V5
    after (.vtxXy 0x4000 0x5000) (drawing .triangles) (·.cur) = some (.of ⟨4, 5, 3, 1⟩) ∧
    -- V6
    after (.vtxXz 0x4000 0x5000) (drawing .triangles) (·.cur) = some (.of ⟨4, 2, 5, 1⟩) ∧
    -- V7
    after (.vtxYz 0x4000 0x5000) (drawing .triangles) (·.cur) = some (.of ⟨1, 4, 5, 1⟩) ∧
    -- V8
    after (.vtxDiff 0x001 0x3FF 0x1FF) (drawing .triangles) (·.cur) = some (.of ⟨4097 / 4096, 8191 / 4096, 12799 / 4096, 1⟩) := by decide +kernel
/-- POS_TEST and BEGIN_VTXS. -/
theorem test_posTest_and_beginVtxs :
    -- S6
    after (.posTest 0x1000 0x1000 0x1000) { booted .projection with proj := .of (affine 2 2 2 0 0 0) }
      (fun s => (s.posResult, s.cur, s.cnt)) = some (.of #v[0x2000, 0x2000, 0x2000, 0x1000], .of ⟨1, 1, 1, 1⟩, 0) ∧
    -- V10
    after (.posTest 0x1000 0x1000 0x1000) { booted .position with pos := .of (affine 1 1 1 1 0 0), vec := .unset .zero }
      (fun s => (s.posmtxResult.val[12], s.posmtxResult.val[3], s.vecmtxResult.written)) = some (0x1000, 0, false) ∧
    after (.beginVtxs 2) { booted .projection with cnt := 5, vtx := [⟨1, 1, 1, 1⟩] } (fun s => (s.prim, s.cnt, s.clip, s.vtx.length)) =
      some (.of .triangleStrip, 0, .of identity4, 1) := by decide +kernel
theorem test_endVtxs : exec .endVtxs { State.reset with cnt := 2 } = .next { State.reset with cnt := 2 } := rfl

/-- The assembler's table on one vertex (P3, P4, P2, P6c). -/
theorem test_assembler_table :
    after (.vtx16 0 0 0) { drawing .triangleStrip with cnt := 3, vtx := List.replicate 3 .zero } (·.poly) = some [.tri 2 1 3] ∧
    after (.vtx16 0 0 0) { drawing .quadStrip with cnt := 3, vtx := List.replicate 3 .zero } (·.poly) = some [.quad 2 0 1 3] ∧
    after (.vtx16 0 0 0) { drawing .quads with cnt := 7, vtx := List.replicate 7 .zero } (·.poly) = some [.quad 4 5 6 7] ∧
    after (.vtx16 0 0 0) { drawing .triangles with cnt := 2 } (fun s => (s.poly, s.cnt)) = some ([], 3) := by decide +kernel
/-- The two stores at capacity. -/
theorem test_capacities :
    -- V11, with a capacity of 2
    after (.vtx16 0 0 0) { drawing .triangles with
      params := { Params.default with maxVtx := 2 }, cnt := 2, vtx := List.replicate 2 .zero } (fun s => (s.cnt, s.cur)) =
      some (2, .of ⟨0, 0, 0, 1⟩) ∧
    -- P7, with a capacity of 1
    after (.vtx16 0 0 0) { drawing .triangles with
      params := { Params.default with maxPoly := 1 }, cnt := 5, vtx := List.replicate 5 .zero, poly := [.tri 0 1 2] }
      (fun s => (s.poly, s.cnt)) = some ([.tri 0 1 2], 6) := by decide +kernel

/-- The frame of program A just before its swap: one triangle, (128,96), (192,48), (192,96) on the screen. -/
def oneTriangle : State := { drawing .triangles with vtx := [⟨0, 0, 0, 1⟩, ⟨1 / 2, 1 / 2, 0, 1⟩, ⟨1 / 2, 0, 0, 1⟩], poly := [.tri 0 1 2] }

theorem test_swapBuffers_clears :
    after (.swapBuffers 1) { oneTriangle with cnt := 3 } (fun s => (s.vtx, s.poly, s.cnt)) = some ([], [], 3) := by decide
/-- The walk and the screen mapping. -/
theorem test_walk :
    -- L4
    walk .default ⟨0, 0⟩ ⟨2, 5⟩ = [⟨0, 0⟩, ⟨0, 1⟩, ⟨0, 2⟩, ⟨1, 3⟩, ⟨1, 4⟩, ⟨2, 5⟩] ∧
    -- L11
    walk .default ⟨3, 0⟩ ⟨0, 2⟩ = [⟨0, 2⟩, ⟨1, 1⟩, ⟨2, 0⟩, ⟨3, 0⟩] ∧
    -- L7
    walk .default ⟨-2, 10⟩ ⟨3, 10⟩ = [⟨0, 10⟩, ⟨1, 10⟩, ⟨2, 10⟩, ⟨3, 10⟩] ∧
    toScreen .default ⟨1, 1, 0, -2⟩ = ⟨64, 144⟩ := by decide +kernel

/-- O1: the commands that change nothing, one by one. -/
theorem test_no_effect (s : State) (p : Word) (v : Vector Word 32) :
    exec .nop s = .next s ∧ exec (.color p) s = .next s ∧ exec (.normal p) s = .next s ∧ exec (.texcoord p) s = .next s ∧
    exec (.polygonAttr p) s = .next s ∧ exec (.teximageParam p) s = .next s ∧ exec (.plttBase p) s = .next s ∧
    exec (.difAmb p) s = .next s ∧ exec (.speEmi p) s = .next s ∧ exec (.lightVector p) s = .next s ∧
    exec (.lightColor p) s = .next s ∧ exec (.shininess v) s = .next s ∧ exec (.viewport p) s = .next s ∧
    exec (.vecTest p) s = .next s ∧ exec (.undef 0xFF) s = .next s :=
  ⟨rfl, rfl, rfl, rfl, rfl, rfl, rfl, rfl, rfl, rfl, rfl, rfl, rfl, rfl, rfl⟩
theorem test_boxTest_writes_its_flag : after (.boxTest 0 0 0) .reset (fun s => (s.stBoxtest.written, s.cnt)) = some (true, 0) := by
  decide

/-- A state with one word to be submitted next. -/
def submitting (w : Word) (s : State) : State := { s with input := [.submit w] }

/-- The same state under the model's own treatment `run` (notes/assumptions/2.md). -/
def running (s : State) : State := { s with params := { s.params with unwrittenUse := .run } }

/-- R186, R190, R221, R372, D32, U6: the commands of R374 and R375 are refused right after reset, and each rule's own elements
decide. -/
theorem test_refuse_at_reset :
    exec .mtxPush .reset = .refused .unwritten ∧ exec .mtxIdentity .reset = .refused .unwritten ∧
    exec (.beginVtxs 0) .reset = .refused .unwritten ∧ exec (.posTest 0 0 0) .reset = .refused .unwritten ∧
    exec (.vtx16 0 0 0) .reset = .refused .unwritten ∧
    exec (.mtxScale 0 0 0) { booted .position with pos := .unset .zero } = .refused .unwritten ∧
    exec (.beginVtxs 0) { booted .position with proj := .unset .zero } = .refused .unwritten ∧
    exec (.vtxDiff 0 0 0) { drawing .quads with cur := .unset .zero } = .refused .unwritten ∧
    step (submitting 0x00000011 .reset) = .refused .unwritten :=
  ⟨rfl, rfl, rfl, rfl, rfl, rfl, rfl, rfl, rfl⟩
/-- What is within the boot requirements runs: MTX_IDENTITY writes an Unwritten target, a copy carries the mark of an
Unwritten matrix (R186), and VTX_16 writes all of an Unwritten `cur` (R221). -/
theorem test_refuse_within_the_boot_requirements :
    after .mtxIdentity { booted .position with pos := .unset .zero } (·.pos) = some (.of identity4) ∧
    after (.mtxRestore 7) (booted .position) (fun s => (s.pos.written, s.err)) = some (false, false) ∧
    after (.mtxScale 0 0 0) { booted .positionAndVector with vec := .unset .zero } (·.pos.written) = some true ∧
    after (.vtx16 0 0 0) { drawing .quads with cur := .unset .zero } (·.cur) = some (.of ⟨0, 0, 0, 1⟩) := by
  decide +kernel
/-- Under the model's own treatment `run` what an Unwritten element holds is computed with, and what it gives is marked Unwritten
(notes/assumptions/2.md): here the commands of R374 and R375 right after reset. -/
theorem test_run_at_reset :
    after .mtxPush (running .reset) (fun s => (s.projSp, s.err, s.projStack.written)) = some (1, false, false) ∧
    after .mtxIdentity (running .reset) (·.proj) = some ⟨identity4, false⟩ ∧
    after (.mtxTrans 0 0 0) (running .reset) (·.proj.written) = some false ∧
    after (.beginVtxs 1) (running .reset) (fun s => (s.prim, s.clip.written, s.posmtxResult.written)) = some (.of .quads, false, false) ∧
    after (.posTest 0 0 0) (running .reset) (fun s => (s.cur, s.posResult.written)) = some (.of ⟨0, 0, 0, 1⟩, false) ∧
    after (.vtxDiff 1 0 0) (running .reset) (fun s => (s.cur, s.vtx.length, s.cnt, s.storeWritten)) =
      some (⟨⟨1 / 4096, 0, 0, 0⟩, false⟩, 1, 1, false) := by decide +kernel
theorem test_marks_follow_the_targets : -- R186: an Unwritten vec matters in its mode and its row only
    after (.mtxScale 0 0 0) (running { booted .positionAndVector with vec := .unset .zero }) (fun s => (s.pos.written, s.vec.written)) =
      some (true, false) ∧
    after (.mtxMult3x3 (Vector.replicate 9 0)) (running { booted .positionAndVector with vec := .unset .zero })
      (fun s => (s.pos.written, s.vec.written)) = some (true, false) ∧
    after .mtxIdentity (running { booted .positionAndVector with vec := .unset .zero }) (·.vec) = some (.of identity4) := by
  decide +kernel
theorem test_absolute_vertex_writes_cur : -- R221: all of an Unwritten cur is written, and only then the frame can be read
    after (.vtx10 0 0 0) (running { drawing .triangles with cur := .unset .zero }) (fun s => (s.cur.written, s.storeWritten)) =
      some (true, true) ∧
    after (.vtxXy 0 0) (running { drawing .triangles with cur := .unset .zero }) (fun s => (s.cur.written, s.storeWritten)) =
      some (false, false) ∧
    after (.swapBuffers 0) { State.reset with
      params := { Params.default with fbW := 1, fbH := 1 }, storeWritten := false } (fun s => (readFrame s, s.storeWritten)) =
      some (none, true) := by decide +kernel
theorem test_other_stack_sizes : -- R8: a depth of 2 and 33 slots; R175 with 33 for 32
    after .mtxPush { booted .position with params := { Params.default with pvStackDepth := 2 }, pvSp := 2 }
      (fun s => (s.pvSp, s.err)) = some (2, true) ∧
    after (.mtxPop 1) { booted .position with params := { Params.default with pvStackSlots := 33 } }
      (fun s => (s.pvSp, s.err)) = some (32, true) ∧
    after .mtxPush { booted .projection with params := { Params.default with projStackDepth := 0 } }
      (fun s => (s.projSp, s.err)) = some (0, true) := by decide +kernel
theorem test_other_fraction_bits : -- R8: with 8 fraction bits 0x100 is 1, and it reads back
    after (.posTest 0x100 0 0) { booted .position with params := { Params.default with fracBits := 8 } }
      (fun s => (s.cur, s.posResult.val[0])) = some (.of ⟨1, 0, 0, 1⟩, 0x100) := by decide +kernel

/-! The FIFO, one step at a time. -/

/-- The state after the command word 0x00000010 from reset: MTX_MODE waits for its parameter (R154). -/
def waiting : State :=
  { State.reset with cmdq := [0x10, 0, 0, 0], owed := 1, fill := 3, stFill := 3, stEmpty := false }

theorem test_step_command_word : step (submitting 0x00000010 .reset) = .next waiting := rfl
theorem test_step_last_parameter : -- the second row of R154
    step (submitting 0x00000001 waiting) =
      .next { State.reset with mode := .of .position } := rfl
theorem test_step_enable_takes_effect_at_the_next_submit : -- F2
    (nextOf (step (submitting 0x00000001 { waiting with enEmpty := true }))).map (·.irq) = some true := by decide
theorem test_step_packed_parameters : -- F1, the last word
    (nextOf (step (submitting 0x00002000 { booted .position with
      cmdq := [0x10, 0x1B, 0, 0], paramq := [0, 0x2000, 0x2000], owed := 1, fill := 5 }))).map
      (fun s => (s.mode, s.proj, s.fill, s.owed)) = some (.of .projection, .of (affine 2 2 2 0 0 0), 0, 0) := by decide +kernel
theorem test_step_four_shininess : -- F4: four opcodes are queued and the FIFO reports empty
    (nextOf (step (submitting 0x34343434 .reset))).map (fun s => (s.owed, s.fill, s.stEmpty, s.cmdq.length)) =
      some (128, 0, true, 4) := by decide
theorem test_step_other_arity_table : -- a table that gives BEGIN_VTXS two words and leaves MTX_PUSH out
    (nextOf (step (submitting 0x00001140 { State.reset with params := { Params.default with arity := [(0x40, 2)] } }))).map
      (fun s => (s.owed, s.fill)) = some (2, 3) := by decide
theorem test_step_short_arity : -- R290 under a table that gives COLOR no word: it runs as the other arity-only commands do
    (nextOf (step (submitting 0x00000020 { State.reset with params := { Params.default with arity := [] } }))).map
      (fun s => (s.cmdq, s.owed, s.fill)) = some ([], 0, 0) := by decide
theorem test_step_reserved_mode : step (submitting 0x00000003 waiting) = .refused .reservedMatrixMode := rfl

/-! The host's two questions. Bit 0 of the number is bit 0 of the command word; parameters count on from bit 32. -/

theorem test_tableWord_vtx16 : decodeTableWord 96 0x00007FFF_F0001000_00000023 = some (.vtx16 0x1000 0xF000 0x7FFF) := by decide
theorem test_tableWord_opcode_only : decodeTableWord 8 0x1B = some (.mtxScale 0 0 0) := by decide
theorem test_tableWord_undef : decodeTableWord 8 0x73 = some (.undef 0x73) := by decide
theorem test_withFetchWord_runs_the_command :
    (nextOf (step (State.reset.withFetchWord 64 0x00000002_00000010))).map (·.mode) = some (.of .positionAndVector) := by decide
theorem test_withFetchWord_opcode_only :
    (nextOf (step (State.reset.withFetchWord 8 0x50))).map (fun s => (s.fb.written, s.cmdq, s.owed, s.fill)) =
      some (true, [], 0, 0) := by decide +kernel
theorem test_withFetchWord_at_reset : step (State.reset.withFetchWord 8 0x40) = .refused .unwritten := rfl -- R375
theorem test_withFetchWord_at_reset_under_run :
    (nextOf (step ((running .reset).withFetchWord 8 0x40))).map (fun s => (s.prim, s.cmdq, s.owed, s.fill)) =
      some (.of .triangles, [], 0, 0) := by decide


/-! Witnesses: for each statement with hypotheses, a state and operands that meet them. -/

/-- The default configuration meets its constraints. -/
theorem configInv_default : ConfigInv Params.default where
  cmdCap := by decide
  paramCap := fun op => (Laws.default_capacities op).2
  pvDepth := by decide
  pvSlots := by decide
  maxVtx := by decide
  maxPoly := by decide
  pixels := by decide

theorem witness_ResetMeetsTheInvariant : -- the default configuration, and one in which every parameter differs
    ConfigInv Params.default ∧ 0 < Params.default.halfThreshold ∧
    ConfigInv {
      arity := [], halfThreshold := 1, cmdCap := 4, paramCap := 0, projStackDepth := 0, pvStackDepth := 32, pvStackSlots := 33
      maxVtx := 4, maxPoly := 1, fbW := 4, fbH := 2, pixClear := 1, pixLine := 0, num := .other, conversion := .other
      mulOrder := .operandRight, fracBits := 8, unwrittenUse := .refuse } :=
  ⟨configInv_default, by decide, ⟨by decide, fun _ => Nat.le_refl _, by decide, by decide, by decide, by decide, by decide⟩⟩

/-- A cleared frame has the configured size. -/
theorem frameInv_clear {s : State} (h : s.fb.val = .clear s.params) : FrameInv s where
  rows := by rw [h]; exact (Laws.sized_clear _).1
  columns := by rw [h]; exact (Laws.sized_clear _).2

/-- A reset-like state with an environment action pending meets the invariant. -/
theorem inv_reset_with_input (l : List Event) : Inv { State.reset with input := l } where
  config := configInv_default
  queue := ⟨rfl, .inl ⟨rfl, rfl⟩, rfl⟩
  status := ⟨rfl, ⟨fun _ => rfl, fun _ => rfl⟩, ⟨fun _ => (by decide : (0 : Nat) < 128), fun _ => rfl⟩, rfl, rfl⟩
  store := ⟨Nat.zero_le _, Nat.zero_le _, fun _ h => nomatch h⟩
  stack := ⟨List.length_replicate .., List.length_replicate .., (by decide : 0 < 32)⟩
  cur := fun h => nomatch h
  frame := frameInv_clear rfl

/-- The state waiting for MTX_MODE's parameter meets the invariant. -/
theorem inv_waiting (l : List Event) : Inv { waiting with input := l } where
  config := configInv_default
  queue := ⟨rfl, .inr ⟨rfl, Nat.one_pos⟩, rfl⟩
  status := ⟨rfl, ⟨fun h => (nomatch h), fun h => absurd h (by decide : (3 : Nat) ≠ 0)⟩,
    ⟨fun _ => (by decide : (3 : Nat) < 128), fun _ => rfl⟩, rfl, rfl⟩
  store := ⟨Nat.zero_le _, Nat.zero_le _, fun _ h => nomatch h⟩
  stack := ⟨List.length_replicate .., List.length_replicate .., (by decide : 0 < 32)⟩
  cur := fun h => nomatch h
  frame := frameInv_clear rfl

/-- A state with every element written, and with room for a command word. -/
def allWritten : State :=
  { drawing .triangles with
    projStack := .of identity4
    posStack := List.replicate 32 (.of identity4)
    vecStack := List.replicate 32 (.of identity4) }

theorem everythingWritten_allWritten (l : List Event) : EverythingWritten { allWritten with input := l } where
  mode := rfl
  prim := rfl
  proj := rfl
  pos := rfl
  vec := rfl
  clip := rfl
  cur := rfl
  projStack := rfl
  posStack := fun _ h => by rw [List.eq_of_mem_replicate h]; rfl
  vecStack := fun _ h => by rw [List.eq_of_mem_replicate h]; rfl
  store := rfl

theorem inv_allWritten (l : List Event) : Inv { allWritten with input := l } where
  config := configInv_default
  queue := ⟨rfl, .inl ⟨rfl, rfl⟩, rfl⟩
  status := ⟨rfl, ⟨fun _ => rfl, fun _ => rfl⟩, ⟨fun _ => (by decide : (0 : Nat) < 128), fun _ => rfl⟩, rfl, rfl⟩
  store := ⟨Nat.zero_le _, Nat.zero_le _, fun _ h => nomatch h⟩
  stack := ⟨List.length_replicate .., List.length_replicate .., (by decide : 0 < 32)⟩
  cur := fun _ => rfl
  frame := frameInv_clear rfl

/-- The treatment is no part of the invariant. -/
theorem inv_running {s : State} (h : Inv s) : Inv (running s) where
  config := ⟨h.config.1, h.config.2, h.config.3, h.config.4, h.config.5, h.config.6, h.config.7⟩
  queue := ⟨h.queue.1, h.queue.2, h.queue.3⟩
  status := ⟨h.status.1, h.status.2, h.status.3, h.status.4, h.status.5⟩
  store := ⟨h.store.1, h.store.2, h.store.3⟩
  stack := ⟨h.stack.1, h.stack.2, h.stack.3⟩
  cur := h.cur
  frame := ⟨h.frame.1, h.frame.2⟩

theorem everythingWritten_running {s : State} (h : EverythingWritten s) : EverythingWritten (running s) where
  mode := h.mode
  prim := h.prim
  proj := h.proj
  pos := h.pos
  vec := h.vec
  clip := h.clip
  cur := h.cur
  projStack := h.projStack
  posStack := h.posStack
  vecStack := h.vecStack
  store := h.store

/-- The shared stack after BOOT meets its invariant, wherever the pointer stands. -/
theorem stackInv_booted (m : MatrixMode) {k : Nat} (h : k < 32) : StackInv { booted m with pvSp := k } :=
  ⟨List.length_replicate .., List.length_replicate .., h⟩

theorem witness_DecodeConsumesTheArity : -- the default table, and one that gives VTX_16 one word
    arity 0x23 ≤ [(1 : Word), 2].length ∧ [(1 : Word)].length < arity 0x23 ∧
    ArityTable.get [(0x23, 1)] 0x23 < arity 0x23 ∧ ArityTable.get [(0x23, 1)] 0x23 ≤ [(1 : Word)].length := by decide
theorem witness_DecodeOfEncodeIsTheCommand : Instr.wf (.undef 0xFF) = true ∧ Instr.wf (.vtx10 0x3FF 0 0x200) = true := by decide
theorem witness_PackedWordDecodesInOrder :
    Instr.wf .mtxPush = true ∧ Instr.wf (.mtxMode 3) = true ∧ Instr.wf (.undef 0x01) = true ∧ Instr.wf .nop = true := by decide
theorem witness_UnnamedParameterBitsAreIgnored :
    ((0xFFFFFFFC : Word) &&& 0x3 = 0 &&& 0x3) ∧ ((0xFFFFFFC0 : Word) &&& 0x3F = 0 &&& 0x3F) ∧
    ((0xFFFFFFE0 : Word) &&& 0x1F = 0 &&& 0x1F) ∧ ((0xC0000000 : Word) &&& 0x3FFFFFFF = 0 &&& 0x3FFFFFFF) ∧
    ((0xFFFF0000 : Word) &&& 0xFFFF = 0 &&& 0xFFFF) := by decide
theorem witness_FieldsAreReadFromTheirBits : (0xFF : Byte) ∉ definedOpcodes.map Prod.fst ∧ (0x01 : Byte) ∉ definedOpcodes.map Prod.fst := by
  decide
theorem witness_CommandWordIsAccumulated : State.reset.owed = 0 := rfl
theorem witness_ParameterWordIsAccumulated : waiting.owed ≠ 0 := by decide
theorem witness_NothingExecutesWhileParametersAreOwed :
    (submitting 0x00000010 .reset).input = .submit 0x00000010 :: [] ∧
    (accumulate 0x00000010 { submitting 0x00000010 .reset with input := [] }).owed ≠ 0 := by decide
theorem witness_StepRunsTheQueuedCommands :
    let a := accumulate 0x00000001 { submitting 0x00000001 waiting with input := [] }
    (submitting 0x00000001 waiting).input = .submit 0x00000001 :: [] ∧ a.owed = 0 ∧
    (∀ op ∈ a.cmdq, arity op ≤ waiting.params.arityOf op) ∧
    decodeOpsBy waiting.params.arityOf Config.missingParam a.cmdq a.paramq = .ok ([.mtxMode 1, .nop, .nop, .nop], []) :=
  ⟨rfl, rfl, by decide, rfl⟩
theorem witness_DrainRunsTheHeadCommand : -- the default table, and one that gives COLOR no word
    ({ State.reset with cmdq := [0x10], paramq := [1] } : State).cmdq = 0x10 :: [] ∧
    decodeCommandBy State.reset.params.arityOf (fun k => Config.missingParam (State.reset.draws + k)) 0x10 [1] =
      .ok (.mtxMode 1, []) ∧
    ∃ i, decodeCommandBy (ArityTable.get []) (fun k => Config.missingParam (State.reset.draws + k)) 0x20 [] = .ok (i, []) :=
  ⟨rfl, rfl, _, rfl⟩
theorem witness_SubmittedCommandRunsItsMeaning :
    (∀ op, State.reset.params.arityOf op = arity op) ∧ Instr.wf (.mtxScale 0 1 2) = true ∧ State.reset.Idle ∧
    State.reset.input = [] := ⟨Laws.default_arityOf, rfl, ⟨rfl, rfl, rfl, rfl⟩, rfl⟩
theorem witness_StatusIsRecomputedByEverySubmit :
    (submitting 0x00000010 .reset).input = .submit 0x00000010 :: [] ∧ step (submitting 0x00000010 .reset) = .next waiting :=
  ⟨rfl, rfl⟩
theorem witness_EnableWritesMoveOnlyTheEnables :
    ({ State.reset with input := [.writeEnEmpty true] } : State).input = .writeEnEmpty true :: [] ∧
    ({ State.reset with input := [.writeEnHalf true] } : State).input = .writeEnHalf true :: [] ∧ State.reset.input = [] :=
  ⟨rfl, rfl, rfl⟩
theorem witness_HandlersLeaveTheQueueAlone : exec .endVtxs waiting = .next waiting := rfl
theorem witness_StepKeepsTheInvariant :
    Inv (submitting 0x00000010 .reset) ∧ step (submitting 0x00000010 .reset) = .next waiting := ⟨inv_reset_with_input _, rfl⟩
theorem witness_InvariantBoundsTheFifo_drained : Inv State.reset ∧ State.reset.owed = 0 := ⟨inv_reset_with_input [], rfl⟩
theorem witness_InvariantBoundsTheFifo_owing : Inv waiting ∧ waiting.stEmpty = false := ⟨inv_waiting [], rfl⟩
theorem witness_ConfigurationIsNeverChanged :
    exec .endVtxs { State.reset with params := { Params.default with fbW := 4 } } =
      .next { State.reset with params := { Params.default with fbW := 4 } } ∧
    step State.reset = .next State.reset := ⟨rfl, rfl⟩
theorem witness_OnlyReservedModesAndUnwrittenReadsAreRefused : -- both reasons
    step (submitting 0x00000003 waiting) = .refused .reservedMatrixMode ∧
    step (submitting 0x00000041 .reset) = .next .reset ∧
    step (submitting 0x00000015 .reset) = .refused .unwritten ∧ State.reset.params.unwrittenUse = .refuse :=
  ⟨rfl, rfl, rfl, rfl⟩
theorem witness_InvariantBoundsTheFifo_default : -- with inv_waiting
    (∀ op, waiting.params.arityOf op = arity op) ∧ 0 < waiting.params.halfThreshold ∧ waiting.params.halfThreshold = 128 :=
  ⟨Laws.default_arityOf, by decide, rfl⟩
theorem witness_CommandsCompleteUnlessTheTreatmentRefuses_run : -- every other command, right after reset
    (running .reset).params.unwrittenUse = .run ∧ Instr.mtxPush ≠ .mtxMode 3 := ⟨rfl, by simp⟩
theorem witness_CommandsCompleteUnlessTheTreatmentRefuses_refuse : -- each of the four clauses, by each of the elements
    State.reset.params.unwrittenUse = .refuse ∧ withinBoot .mtxPush .reset = false ∧
    readsMode .mtxPush = true ∧ State.reset.mode.written = false ∧
    recomputesClip (.beginVtxs 0) = true ∧ State.reset.proj.written = false ∧
    ({ booted .position with pos := .unset .zero } : State).pos.written = false ∧
    isVertexCommand (.vtx16 0 0 0) = true ∧ State.reset.clip.written = false ∧
    ({ drawing .quads with prim := .unset .triangles } : State).prim.written = false ∧
    isVertexCommand (.vtxXy 0 0) = true ∧ isRelativeVertex (.vtxXy 0 0) = true ∧
    ({ drawing .quads with cur := .unset .zero } : State).cur.written = false :=
  ⟨rfl, rfl, rfl, rfl, rfl, rfl, rfl, rfl, rfl, rfl, rfl, rfl, rfl⟩
theorem witness_CommandsCompleteUnlessTheTreatmentRefuses_marks : -- marks that a command within the boot requirements keeps
    withinBoot (.mtxScale 0 0 0) allWritten = true ∧ isCopy (.mtxScale 0 0 0) = false ∧
    (∃ t, exec (.mtxScale 0 0 0) allWritten = .next t) ∧ allWritten.mode.written = true ∧ allWritten.pos.written = true ∧
    allWritten.storeWritten = true ∧
    (∃ t, exec (.posTest 0 0 0) allWritten = .next t ∧ t.posResult.written = true ∧ t.posmtxResult.written = true) :=
  ⟨rfl, rfl, ⟨_, rfl⟩, rfl, rfl, rfl, _, rfl, rfl, rfl⟩
theorem witness_EveryWordIsAccepted : -- no MTX_MODE queued; a queued MTX_MODE whose field is not reserved; both treatments
    (running (submitting 0xFFFFFFFF .reset)).input = .submit 0xFFFFFFFF :: [] ∧
    (running (submitting 0xFFFFFFFF .reset)).params.unwrittenUse = .run ∧
    (∀ op ∈ (accumulate 0xFFFFFFFF { submitting 0xFFFFFFFF .reset with input := [] }).cmdq, op ≠ 0x10) ∧
    (∀ i ∈ [Instr.mtxMode 1, .nop, .nop, .nop], i ≠ .mtxMode 3) ∧
    Inv (running (submitting 0xFFFFFFFF allWritten)) ∧ EverythingWritten (running (submitting 0xFFFFFFFF allWritten)) ∧
    Inv (submitting 0xFFFFFFFF allWritten) ∧ EverythingWritten (submitting 0xFFFFFFFF allWritten) ∧
    ∃ t, step (submitting 0xFFFFFFFF allWritten) = .next t :=
  ⟨rfl, rfl, by decide, by decide, inv_running (inv_allWritten _), everythingWritten_running (everythingWritten_allWritten _),
    inv_allWritten _, everythingWritten_allWritten _, _, rfl⟩
theorem witness_ErrorFlagIsSticky_step : step { State.reset with err := true } = .next { State.reset with err := true } := rfl
theorem witness_ErrorFlagIsSticky_exec : ∃ t, exec .mtxPush { booted .position with pvSp := 31 } = .next t ∧ t.err ≠ false :=
  ⟨_, rfl, by decide⟩
theorem witness_FixedPointTruncates : -- the two ends of the signed range
    Params.default.num = .exact ∧
    (-2 ^ 31 : Int) ≤ ⌈(-524288 : NUM) * 4096⌉ ∧ ⌊(2147483647 / 4096 : NUM) * 4096⌋ ≤ 2 ^ 31 - 1 := by decide +kernel
/-- The field `ℚ` itself meets the hypotheses on `K`. -/
theorem witness_ExactResultsAreThoseOfEveryOrderedField :
    Params.default.num = .exact ∧ (⟨0, 0, 0, 1⟩ : Vec4).w ≠ 0 ∧
    (-2 ^ 31 : Int) ≤ ⌊((1 : NUM) : ℚ) * 2 ^ Params.default.fracBits⌋ ∧
    ⌊((1 : NUM) : ℚ) * 2 ^ Params.default.fracBits⌋ ≤ 2 ^ 31 - 1 := by decide +kernel
/-- `Runs` is met both ways: within the boot requirements, and outside of them under the model's own treatment `run`. -/
theorem witness_Runs_matrix (n : BitVec 6) (k : BitVec 5) (a : Vector Word 16) (b : Vector Word 12) (c : Vector Word 9) (x y z : Word) :
    let s := booted .position
    (Runs .mtxPush s ∧ Runs (.mtxPop n) s ∧ Runs (.mtxStore k) s ∧ Runs (.mtxRestore k) s ∧ Runs .mtxIdentity s ∧
      Runs (.mtxLoad4x4 a) s ∧ Runs (.mtxLoad4x3 b) s ∧ Runs (.mtxMult4x4 a) s ∧ Runs (.mtxMult4x3 b) s ∧
      Runs (.mtxMult3x3 c) s ∧ Runs (.mtxScale x y z) s ∧ Runs (.mtxTrans x y z) s) ∧
    ∀ i : Instr, i ≠ .mtxMode 3 → Runs i (running .reset) :=
  ⟨⟨.inl rfl, .inl rfl, .inl rfl, .inl rfl, .inl rfl, .inl rfl, .inl rfl, .inl rfl, .inl rfl, .inl rfl, .inl rfl, .inl rfl⟩,
    fun _ h => .inr ⟨rfl, h⟩⟩
theorem witness_Runs_vertex (x y z : BitVec 16) (u v w : BitVec 10) (t : BitVec 2) :
    let s := drawing .quads
    Runs (.vtx16 x y z) s ∧ Runs (.vtx10 u v w) s ∧ Runs (.vtxXy x y) s ∧ Runs (.vtxXz x z) s ∧ Runs (.vtxYz y z) s ∧
    Runs (.vtxDiff u v w) s ∧ Runs (.posTest x y z) s ∧ Runs (.beginVtxs t) s :=
  ⟨.inl rfl, .inl rfl, .inl rfl, .inl rfl, .inl rfl, .inl rfl, .inl rfl, .inl rfl⟩
theorem witness_MtxPushCopiesOrSetsTheErrorFlag_projection :
    Runs .mtxPush (booted .projection) ∧
    (booted .projection).mode.val = .projection ∧
    (booted .projection).projSp.val < (booted .projection).params.projStackDepth ∧
    (booted .projection).params.projStackDepth ≤ ({ booted .projection with projSp := 1 } : State).projSp.val :=
  ⟨.inl rfl, by decide⟩
theorem witness_MtxPushCopiesOrSetsTheErrorFlag_shared : -- the last case with a pointer above a smaller depth
    Runs .mtxPush { booted .position with pvSp := 31 } ∧
    ({ Params.default with pvStackDepth := 2 } : Params).pvStackDepth < 31 ∧
    usesSharedStack { booted .position with pvSp := 31 } ∧ usesSharedStack { booted .positionAndVector with pvSp := 30 } ∧
    Params.default.pvStackDepth ≤ 31 ∧ 30 < Params.default.pvStackDepth := ⟨.inl rfl, by decide, .inl rfl, .inr rfl, by decide, by decide⟩
theorem witness_MtxPopWrapsAndLoads :
    Runs (.mtxPop 0x20) { booted .position with pvSp := 31 } ∧ Runs (.mtxPop 0x1F) (booted .projection) ∧
    (booted .projection).mode.val = .projection ∧ usesSharedStack (booted .position) ∧
    StackInv { booted .position with pvSp := 0 } ∧ StackInv { booted .position with pvSp := 31 } :=
  ⟨.inl rfl, .inl rfl, rfl, .inl rfl, stackInv_booted _ (by decide), stackInv_booted _ (by decide)⟩
theorem witness_MtxStoreAndRestoreCopyASlot : -- the last slot
    Runs (.mtxStore 31) (booted .positionAndVector) ∧ Runs (.mtxRestore 31) (booted .positionAndVector) ∧
    (booted .projection).mode.val = .projection ∧ usesSharedStack (booted .positionAndVector) ∧
    (booted .positionAndVector).posStack[(31 : BitVec 5).toNat]? = some (.unset .zero) ∧
    (booted .positionAndVector).vecStack[(31 : BitVec 5).toNat]? = some (.unset .zero) :=
  ⟨.inl rfl, .inl rfl, rfl, .inr rfl, rfl, rfl⟩
theorem witness_MatrixCommandsPublishTheDepths :
    isMatrixCommand (.mtxMode 0) = true ∧ ∃ t, exec (.mtxMode 0) .reset = .next t := ⟨rfl, _, rfl⟩
theorem witness_ThirtyOnePushesFitTheStack :
    Runs .mtxPush (booted .position) ∧ ConfigInv (booted .position).params ∧ StackInv (booted .position) ∧ usesSharedStack (booted .position) ∧
    (booted .position).pvSp = 0 ∧ (booted .position).err = false :=
  ⟨.inl rfl, configInv_default, stackInv_booted _ (by decide), .inl rfl, rfl, rfl⟩
theorem witness_PopThenPushesRestoreThePointer :
    Runs (.mtxPop 0x1F) { booted .position with pvSp := 31 } ∧ StackInv { booted .position with pvSp := 31 } ∧ usesSharedStack { booted .position with pvSp := 31 } ∧
    31 ≤ Params.default.pvStackDepth ∧ 1 ≤ (0x1F : BitVec 6).toInt ∧ (0x1F : BitVec 6).toInt ≤ (31 : Nat) :=
  ⟨.inl rfl, stackInv_booted _ (by decide), .inl rfl, by decide, by decide, by decide⟩
theorem witness_OnlyMatrixCommandsWriteTheMatrices :
    isMatrixCommand (.beginVtxs 1) = false ∧ ∃ t, exec (.beginVtxs 1) (booted .position) = .next t := ⟨rfl, _, rfl⟩
theorem witness_ClipIsRecomputedOnlyAtBeginAndPosTest :
    recomputesClip (.swapBuffers 0) = false ∧ (∃ t, exec (.swapBuffers 0) .reset = .next t) ∧
    (∀ x y z, Instr.swapBuffers 0 ≠ .posTest x y z) ∧ ∀ p q r, Instr.swapBuffers 0 ≠ .boxTest p q r :=
  ⟨rfl, ⟨_, rfl⟩, by simp, by simp⟩
theorem witness_FrameStateHasItsNamedWriters :
    isVertexCommand (.boxTest 0 0 0) = false ∧ (∃ t, exec (.boxTest 0 0 0) .reset = .next t) ∧
    (∀ x y z, Instr.boxTest 0 0 0 ≠ .posTest x y z) ∧ (∀ k, Instr.boxTest 0 0 0 ≠ .beginVtxs k) ∧
    ∀ p, Instr.boxTest 0 0 0 ≠ .swapBuffers p :=
  ⟨rfl, ⟨_, rfl⟩, by simp, by simp, by simp⟩
/-- The two cases of `VertexStep` at their boundary: a full Vertex Store, and one with room for one vertex. -/
theorem witness_VertexStep_capacity :
    (drawing .quads).params.maxVtx ≤ ({ drawing .quads with vtx := List.replicate 6144 .zero } : State).vtx.length ∧
    ¬(drawing .quads).params.maxVtx ≤ ({ drawing .quads with vtx := List.replicate 6143 .zero } : State).vtx.length := by
  simp only [List.length_replicate]; decide
/-- The cases of the table of R243 at the counts where they begin. -/
theorem witness_tableIndices :
    tableIndices .triangles 3 3 = some [0, 1, 2] ∧ tableIndices .quads 4 4 = some [0, 1, 2, 3] ∧
    tableIndices .triangleStrip 3 3 = some [0, 1, 2] ∧ tableIndices .triangleStrip 4 4 = some [2, 1, 3] ∧
    tableIndices .quadStrip 4 4 = some [2, 0, 1, 3] ∧ tableIndices .triangleStrip 2 2 = none ∧
    tableIndices .triangles 3 1 = some [-2, -1, 0] := by decide
theorem witness_BeginVtxsResetsTheCounterAndTheClip : -- the last value of the field
    ∃ t, exec (.beginVtxs 3) (booted .position) = .next t ∧ t.prim = ⟨.quadStrip, true⟩ := ⟨_, rfl, rfl⟩
theorem witness_LoadedMatrixReadsBackInTheSnapshot (a : Vector Word 16) :
    Runs (.mtxLoad4x4 a) (booted .position) ∧ Runs (.mtxLoad4x4 a) (booted .positionAndVector) ∧
    (booted .position).proj.written = true ∧ (running .reset).params.unwrittenUse = .run ∧
    (booted .position).params.conversion = .truncate ∧ (booted .position).params.num = .exact ∧
    (booted .position).mode.val = .position ∧ (booted .positionAndVector).mode.val = .positionAndVector :=
  ⟨.inl rfl, .inl rfl, rfl, rfl, rfl, rfl, rfl, rfl⟩
/-- Vertices of every form. -/
def someVertices : List Instr :=
  [.vtx10 0 0 0, .vtxXy 0 0, .vtxXz 0 0, .vtxYz 0 0, .vtxDiff 1 1 1, .vtx16 0 0 0, .vtxDiff 0 0 0]
theorem witness_TrianglesTakeTheVerticesInThrees :
    let s := drawing .triangles
    VerticesRun someVertices (running .reset) ∧ -- under `run`, and within the boot requirements with a `cur` the first vertex writes
    VerticesRun someVertices { s with cur := .unset .zero } ∧
    (∀ i ∈ someVertices, isVertexCommand i = true) ∧ s.prim.val = .triangles ∧ s.cnt = 0 ∧
    s.vtx.length + someVertices.length ≤ s.params.maxVtx ∧
    s.poly.length + someVertices.length / 3 ≤ s.params.maxPoly :=
  ⟨.inl rfl, .inr ⟨rfl, rfl, .inr (by decide)⟩, by decide⟩
theorem witness_StripTrianglesShareVerticesAndAlternate :
    let s := drawing .triangleStrip
    VerticesRun someVertices (running .reset) ∧ -- under `run`, and within the boot requirements with a `cur` the first vertex writes
    VerticesRun someVertices { s with cur := .unset .zero } ∧
    (∀ i ∈ someVertices, isVertexCommand i = true) ∧ s.prim.val = .triangleStrip ∧ s.cnt = 0 ∧
    s.vtx.length + someVertices.length ≤ s.params.maxVtx ∧
    s.poly.length + (someVertices.length - 2) ≤ s.params.maxPoly :=
  ⟨.inl rfl, .inr ⟨rfl, rfl, .inr (by decide)⟩, by decide⟩
theorem witness_SwapReplacesTheFrameAndEmptiesTheStores : -- the last pixel of the frame
    191 < State.reset.params.fbH ∧ 255 < State.reset.params.fbW := by decide
theorem witness_SwapLightsExactlyTheEdges_lit : -- the first pixel of the first edge of program A
    EdgeLights .default ⟨0, 0, 0, 1⟩ ⟨1 / 2, 1 / 2, 0, 1⟩ 128 96 := by
  have ha : screenOf .default ⟨0, 0, 0, 1⟩ = ⟨128, 96⟩ := by decide +kernel
  have hb : screenOf .default ⟨1 / 2, 1 / 2, 0, 1⟩ = ⟨192, 48⟩ := by decide +kernel
  refine ⟨by decide +kernel, by decide +kernel, ?_, ?_, ?_⟩ <;> rw [ha, hb]
  · simp [OffScreen, Params.default]
  · decide
  · exact (if_pos (by decide)).mpr ⟨0, by decide, by decide, by decide +kernel⟩
theorem witness_SwapLightsExactlyTheEdges_runs :
    (∃ t, exec (.swapBuffers 0) oneTriangle = .next t) ∧ oneTriangle.storeWritten = true := ⟨⟨_, rfl⟩, rfl⟩
theorem witness_DegenerateEdgesDrawNothing :
    (⟨1, 1, 1, 0⟩ : Vec4).w = 0 ∧ screenOf .default ⟨0, 0, 0, 1⟩ = screenOf .default ⟨0, 0, 5, 1⟩ ∧
    OffScreen .default (screenOf .default ⟨3, 0, 0, 1⟩) ∧ OffScreen .default (screenOf .default ⟨-3, 0, 0, 1⟩) := by
  have ha : screenOf .default ⟨3, 0, 0, 1⟩ = ⟨512, 96⟩ := by decide +kernel
  have hb : screenOf .default ⟨-3, 0, 0, 1⟩ = ⟨-256, 96⟩ := by decide +kernel
  refine ⟨rfl, by decide +kernel, ?_, ?_⟩
  · rw [ha]; simp [OffScreen, Params.default]
  · rw [hb]; simp [OffScreen, Params.default]
theorem witness_CommandsWithoutEffectLeaveTheState : -- with the default table and two queued words, and with a table that gives none
    hasNoEffect .nop = true ∧ hasNoEffect (.undef 0xFF) = true ∧ hasNoEffect (.vecTest 0) = true ∧ Instr.wf (.undef 0xFF) = true ∧
    arity 0x72 ≤ State.reset.params.arityOf 0x72 ∧ State.reset.params.arityOf 0x72 ≤ [(0 : Word), 0].length ∧
    ArityTable.get [] 0x72 < arity 0x72 := by decide
theorem witness_UnwrittenValuesDoNotLeak_refuse : -- an Unwritten mode of two values
    State.erase { State.reset with mode := ⟨.position, false⟩ } = State.erase .reset ∧
    State.reset.params.unwrittenUse ≠ .run := ⟨rfl, by decide⟩
theorem witness_UnwrittenValuesDoNotLeak_run : -- two values of an Unwritten `cur`
    State.erase (running { booted .position with cur := ⟨.zero, false⟩ }) =
      State.erase (running { booted .position with cur := ⟨⟨1, 1, 1, 1⟩, false⟩ }) ∧
    (running (booted .position)).params.unwrittenUse = .run ∧ (running (booted .position)).mode.written = true := ⟨rfl, rfl, rfl⟩
theorem witness_UnwrittenValuesDoNotLeak : -- two different values in an Unwritten stack slot, and in stores that are Unwritten
    State.erase { booted .position with projStack := ⟨.zero, false⟩ } =
      State.erase { booted .position with projStack := ⟨identity4, false⟩ } ∧
    ({ booted .position with projStack := ⟨.zero, false⟩ } : State) ≠ { booted .position with projStack := ⟨identity4, false⟩ } ∧
    State.erase { booted .position with vtx := [.zero], storeWritten := false } =
      State.erase { booted .position with vtx := [⟨1, 1, 1, 1⟩], storeWritten := false } ∧
    readsMode (.mtxPop 0) = true ∧ (booted .position).mode.written = true ∧ readsMode (.mtxMode 0) = false :=
  ⟨rfl, by decide +kernel, rfl, rfl, rfl, rfl⟩
theorem witness_UnwrittenResultsHaveNoValueToRead :
    State.reset.fb.written = false ∧ State.reset.posmtxResult.written = false ∧ State.reset.vecmtxResult.written = false ∧
    State.reset.posResult.written = false ∧ State.reset.stBoxtest.written = false ∧
    (∃ t, exec (.swapBuffers 0) .reset = .next t) ∧
    -- the three ways a vertex leaves the stores Unwritten under `run`
    (running .reset).params.unwrittenUse = .run ∧ isVertexCommand (.vtx16 0 0 0) = true ∧
    (running .reset).vtx.length < (running .reset).params.maxVtx ∧ (running .reset).clip.written = false ∧
    (running { drawing .quads with prim := .unset .triangles }).prim.written = false ∧
    isRelativeVertex (.vtxDiff 0 0 0) = true ∧
    (running { drawing .quads with cur := .unset .zero }).cur.written = false :=
  ⟨rfl, rfl, rfl, rfl, rfl, ⟨_, rfl⟩, rfl, rfl, by decide, rfl, rfl, rfl, rfl⟩

/-! The tests of whole frames. -/
theorem test_swapBuffers_other_frame : -- FB_W = 4, FB_H = 2: R265 maps (-1, 0) and (0, 0) to (0, 1) and (2, 1)
    (nextOf (exec (.swapBuffers 0) { State.reset with
      params := { Params.default with fbW := 4, fbH := 2, pixClear := 7, pixLine := 9 }
      vtx := [⟨-1, 0, 0, 1⟩, ⟨0, 0, 0, 1⟩], poly := [.tri 0 1 1] })).map readFrame =
      some (some [[7, 7, 7, 7], [9, 9, 9, 7]]) := by decide +kernel
theorem test_swapBuffers_pixels : -- program A, rows 48 and 72
    (nextOf (exec (.swapBuffers 0) oneTriangle)).map (fun s => [readPixel s 72 159, readPixel s 72 161, readPixel s 48 191]) =
      some [some 1, some 0, some 1] := by decide +kernel

end Sys2Proof.Tests
end

section
/-! PROOFS. The matrix product and the vertex transform as sums (spec/40_math.md R124, R125), and their composition. -/

namespace Sys2Proof.Laws

open Sys2Proof.Machine

/-- R124 in exact arithmetic: the row-by-column sum. -/
theorem matmul_exact_get_eq_sum (A B : Mat4) (r c : Fin 4) :
    (matmul .exact A B).get r c = ∑ k : Fin 4, A.get r k * B.get k c := by
  rw [matmul_exact_get, Fin.sum_univ_four]

/-- R125 in exact arithmetic: the row-by-vector sum. -/
theorem xform_exact_get_eq_sum (A : Mat4) (v : Vec4) (r : Fin 4) :
    (xform .exact A v).get r = ∑ k : Fin 4, A.get r k * v.get k := by
  rw [xform_exact_get, Fin.sum_univ_four]

/-- R124: a product applied to a vertex applies the right factor first. The two double sums differ only in the order of
summation, which exact arithmetic does not see. -/
theorem xform_exact_matmul (A B : Mat4) (v : Vec4) :
    xform .exact (matmul .exact A B) v = xform .exact A (xform .exact B v) := by
  refine vec4_ext fun r => ?_
  calc (xform .exact (matmul .exact A B) v).get r
      = ∑ c, (∑ k, A.get r k * B.get k c) * v.get c := by
        simp only [xform_exact_get_eq_sum, matmul_exact_get_eq_sum]
    _ = ∑ c, ∑ k, A.get r k * (B.get k c * v.get c) := by simp only [Finset.sum_mul, mul_assoc]
    _ = ∑ k, ∑ c, A.get r k * (B.get k c * v.get c) := Finset.sum_comm
    _ = ∑ k, A.get r k * ∑ c, B.get k c * v.get c := by simp only [Finset.mul_sum]
    _ = (xform .exact A (xform .exact B v)).get r := by simp only [xform_exact_get_eq_sum]

/-- Settles O24: the first two parts are `dot4` written out over the entries of row, column and vertex, which holds under any
`NUM`; the last three are the sums above and their composition. -/
theorem productAppliesTheRightFactorFirst : Obligations.ProductAppliesTheRightFactorFirst := by
  intro A B v
  refine ⟨fun k r c => ?_, fun k r => ?_, matmul_exact_get_eq_sum A B, xform_exact_get_eq_sum A v, xform_exact_matmul A B v⟩
  · simp only [matmul_get, dot4_eq, row_get, col_get]
  · simp only [xform_get, dot4_eq, row_get]

end Sys2Proof.Laws
end

section
/-! PROOFS. What the handlers leave to the FIFO (spec/41_fifo.md R153), and the status a submit publishes (R148). -/

namespace Sys2Proof.Laws

open Sys2Proof.Machine

/-- The part of the state that belongs to the environment and the FIFO and that no handler writes (R153): the configuration, the
queues, their status, the enables and the pending input. -/
structure FifoSide where
  params : Params
  cmdq : List Byte
  paramq : List Word
  owed : Nat
  fill : Nat
  stFill : Nat
  stEmpty : Bool
  stHalf : Bool
  irq : Bool
  enEmpty : Bool
  enHalf : Bool
  input : List Event

/-- That part of a state. -/
def fifoSide (s : State) : FifoSide :=
  ⟨s.params, s.cmdq, s.paramq, s.owed, s.fill, s.stFill, s.stEmpty, s.stHalf, s.irq, s.enEmpty, s.enHalf, s.input⟩

@[simp] theorem publishDepths_fifoSide (s : State) : fifoSide (publishDepths s) = fifoSide s := rfl

@[simp] theorem mapTargets_fifoSide (both : Bool) (f : Reg Mat4 → Reg Mat4) (s : State) :
    fifoSide (mapTargets both f s) = fifoSide s := by
  obtain ⟨_, _, _, h⟩ := mapTargets_shape both f s
  rw [h]; rfl

@[simp] theorem loadTargets_fifoSide (M : Mat4) (s : State) : fifoSide (loadTargets M s) = fifoSide s :=
  mapTargets_fifoSide _ _ s

@[simp] theorem mulTargets_fifoSide (M : Mat4) (s : State) : fifoSide (mulTargets M s) = fifoSide s :=
  mapTargets_fifoSide _ _ s

@[simp] theorem mulPosTargets_fifoSide (M : Mat4) (s : State) : fifoSide (mulPosTargets M s) = fifoSide s :=
  mapTargets_fifoSide _ _ s

@[simp] theorem pushCurrent_fifoSide (s : State) : fifoSide (pushCurrent s) = fifoSide s := by
  obtain ⟨_, _, _, _, _, _, h, -⟩ := pushCurrent_shape s
  rw [h]; rfl

@[simp] theorem popCurrent_fifoSide (n : Int) (s : State) : fifoSide (popCurrent n s) = fifoSide s := by
  obtain ⟨_, _, _, _, _, _, h, -⟩ := popCurrent_shape n s
  rw [h]; rfl

@[simp] theorem storeCurrent_fifoSide (i : Nat) (s : State) : fifoSide (storeCurrent i s) = fifoSide s := by
  obtain ⟨_, _, _, h, -⟩ := storeCurrent_shape i s
  rw [h]; rfl

@[simp] theorem restoreCurrent_fifoSide (i : Nat) (s : State) : fifoSide (restoreCurrent i s) = fifoSide s := by
  obtain ⟨_, _, _, h⟩ := restoreCurrent_shape i s
  rw [h]; rfl

@[simp] theorem addVtx_fifoSide (s : State) (c : Reg Vec4) : fifoSide (addVtx { s with cur := c }) = fifoSide s := by
  obtain ⟨_, _, _, _, h⟩ := addVtx_shape s c
  rw [h]; rfl

/-- No command's effect reaches the FIFO's side (R153): the matrix and vertex commands act by the shared operations above, and the
others write their own results only. -/
theorem effect_fifoSide (i : Instr) (s : State) : fifoSide (effect i s) = fifoSide s := by
  cases i with
  | mtxMode m => rw [effect]; split <;> rfl
  | mtxPush | mtxPop | mtxStore | mtxRestore
  | mtxIdentity | mtxLoad4x4 | mtxLoad4x3 | mtxMult4x4 | mtxMult4x3 | mtxMult3x3 | mtxScale | mtxTrans
  | vtx16 | vtx10 | vtxXy | vtxXz | vtxYz | vtxDiff => simp [effect]
  | _ => rfl

theorem exec_fifoSide {i : Instr} {s t : State} (h : exec i s = .next t) : fifoSide t = fifoSide s := by
  obtain ⟨-, rfl⟩ := exec_eq_next h
  exact effect_fifoSide i s

/-- `t` has the configuration and the enables of `s`: what `update_status` reads besides the fill level. -/
structure SameSettings (s t : State) : Prop where
  params : t.params = s.params
  enEmpty : t.enEmpty = s.enEmpty
  enHalf : t.enHalf = s.enHalf

theorem SameSettings.refl (s : State) : SameSettings s s := ⟨rfl, rfl, rfl⟩

theorem SameSettings.trans {s t u : State} (h : SameSettings s t) (h' : SameSettings t u) : SameSettings s u :=
  ⟨h'.params.trans h.params, h'.enEmpty.trans h.enEmpty, h'.enHalf.trans h.enHalf⟩

theorem exec_sameSettings {i : Instr} {s t : State} (h : exec i s = .next t) : SameSettings s t :=
  have e := exec_fifoSide h
  ⟨congrArg FifoSide.params e, congrArg FifoSide.enEmpty e, congrArg FifoSide.enHalf e⟩

theorem accumulate_sameSettings (w : Word) (s : State) : SameSettings s (accumulate w s) := by
  unfold accumulate
  split
  · rw [commandPhase, foldl_enqueueOp]; exact ⟨rfl, rfl, rfl⟩
  · exact ⟨rfl, rfl, rfl⟩

theorem drain_sameSettings {k : Nat} {s t : State} (h : drain k s = .next t) : SameSettings s t :=
  drain_induction (SameSettings s) (fun _ _ _ h hs => hs.trans (exec_sameSettings h))
    (fun _ _ hs => hs.trans ⟨rfl, rfl, rfl⟩) (fun _ _ hs => hs.trans ⟨rfl, rfl, rfl⟩) k s t h (.refl s)

theorem drainIfReady_sameSettings {s t : State} (h : drainIfReady s = .next t) : SameSettings s t := by
  unfold drainIfReady at h
  split at h
  · exact drain_sameSettings h
  · cases h; exact .refl s

/-- A pending word is what the step submits (R140). -/
theorem step_of_submit {s : State} {w : Word} {rest : List Event} (h : s.input = .submit w :: rest) :
    step s = submit w { s with input := rest } := by
  simp [step, h, applyEvent]

/-- A submit that completes ends with `update_status`, on a state with the configuration and the enables the submit began with. -/
theorem submit_eq_next {w : Word} {s t : State} (h : submit w s = .next t) : ∃ u, SameSettings s u ∧ t = updateStatus u := by
  rw [submit, andThen_eq_next] at h
  obtain ⟨u, hu, ht⟩ := h
  cases ht
  exact ⟨u, (accumulate_sameSettings w s).trans (drainIfReady_sameSettings hu), rfl⟩

theorem isEmptyLevel_iff (fill : Nat) : isEmptyLevel fill = true ↔ fill = 0 := beq_iff_eq

theorem isHalfLevel_iff (threshold fill : Nat) : isHalfLevel threshold fill = true ↔ fill < threshold := decide_eq_true_iff

/-- Settles O14: the submit ends with `update_status`, which computes the four fields from the fill level, the threshold and the
enables; the drain before it leaves the threshold and the enables as the submit found them. -/
theorem statusIsRecomputedByEverySubmit : Obligations.StatusIsRecomputedByEverySubmit := by
  refine ⟨rfl, fun w rest s t hin hstep => ?_⟩
  rw [step_of_submit hin] at hstep
  obtain ⟨u, ⟨hparams, henEmpty, henHalf⟩, rfl⟩ := submit_eq_next hstep
  refine ⟨rfl, isEmptyLevel_iff u.fill, ?_, ?_, henEmpty, henHalf⟩
  · rw [updateStatus_stHalf, updateStatus_fill, isHalfLevel_iff, hparams]
  · simp only [updateStatus_irq, updateStatus_enEmpty, updateStatus_stEmpty, updateStatus_enHalf, updateStatus_stHalf,
      Bool.or_eq_true, Bool.and_eq_true]

end Sys2Proof.Laws
end

section
/-! PROOFS. Every matrix command ends with the status update (spec/42_matrix.md R173). -/

namespace Sys2Proof.Laws

open Sys2Proof.Machine Sys2Proof.Claims

/-- The reserved field value is the only one that names no mode (R172, U1). -/
theorem matrixModeOf_isSome_iff (m : BitVec 2) : (matrixModeOf m).isSome = true ↔ m ≠ 3 := by
  revert m; decide

/-- A matrix command that runs ends by publishing the depths (R173). For MTX_MODE this needs that it runs: with the reserved
field it would leave the state alone. -/
theorem effect_eq_publishDepths {i : Instr} {s : State} (hm : isMatrixCommand i = true) (hr : Runs i s) :
    ∃ u, effect i s = publishDepths u := by
  cases i with
  | mtxMode m =>
    have hne : m ≠ 3 := fun e => runs_ne hr (by rw [e])
    obtain ⟨v, hv⟩ := Option.isSome_iff_exists.1 ((matrixModeOf_isSome_iff m).2 hne)
    exact ⟨{ s with mode := .of v }, by simp only [effect, hv]⟩
  | mtxPush | mtxPop | mtxStore | mtxRestore
  | mtxIdentity | mtxLoad4x4 | mtxLoad4x3 | mtxMult4x4 | mtxMult4x3 | mtxMult3x3 | mtxScale | mtxTrans => exact ⟨_, rfl⟩
  | _ => cases hm

/-- Settles O35: the last thing a matrix command does is to publish the depths. -/
theorem matrixCommandsPublishTheDepths : Obligations.MatrixCommandsPublishTheDepths := by
  intro i s t hm h
  obtain ⟨hr, rfl⟩ := exec_eq_next h
  obtain ⟨u, hu⟩ := effect_eq_publishDepths hm hr
  rw [hu]
  exact ⟨publishDepths_stProjDepth u, publishDepths_stPvDepth u⟩

end Sys2Proof.Laws
end

section
/-! PROOFS. The decoder and the encoder (spec/30_encoding.md R91 to R97): what the opcode's row builds, decoding what was encoded, and
the fields of a parameter word. -/

namespace Sys2Proof.Laws

open Sys2Proof.Machine Sys2Proof.Claims

/-- What the row of a command's own opcode builds from the command's own words is the command: every field reads back from where
the encoder placed it. -/
theorem build_params {i : Instr} (h : i.wf = true) : (opcodeRow i.opcode).build i.params = i := by
  cases i with
  | undef op => rw [show (Instr.undef op).opcode = op from rfl, opcodeRow_of_undefined h]; rfl
  | mtxMode m => exact congrArg Instr.mtxMode (bitField_placeField m 0 (by decide))
  | mtxPop n => exact congrArg Instr.mtxPop (bitField_placeField n 0 (by decide))
  | mtxStore k => exact congrArg Instr.mtxStore (bitField_placeField k 0 (by decide))
  | mtxRestore k => exact congrArg Instr.mtxRestore (bitField_placeField k 0 (by decide))
  | beginVtxs t => exact congrArg Instr.beginVtxs (bitField_placeField t 0 (by decide))
  | mtxLoad4x4 a => exact congrArg Instr.mtxLoad4x4 (paramVec_toList a)
  | mtxLoad4x3 a => exact congrArg Instr.mtxLoad4x3 (paramVec_toList a)
  | mtxMult4x4 a => exact congrArg Instr.mtxMult4x4 (paramVec_toList a)
  | mtxMult4x3 a => exact congrArg Instr.mtxMult4x3 (paramVec_toList a)
  | mtxMult3x3 a => exact congrArg Instr.mtxMult3x3 (paramVec_toList a)
  | shininess a => exact congrArg Instr.shininess (paramVec_toList a)
  | vtx16 x y z =>
    change Instr.vtx16 (bitField (pack16 x y) 0 16) (bitField (pack16 x y) 16 16) (bitField (pack16 z 0) 0 16) = _
    simp
  | posTest x y z =>
    change Instr.posTest (bitField (pack16 x y) 0 16) (bitField (pack16 x y) 16 16) (bitField (pack16 z 0) 0 16) = _
    simp
  | vtx10 x y z =>
    change Instr.vtx10 (bitField (pack10 x y z) 0 10) (bitField (pack10 x y z) 10 10) (bitField (pack10 x y z) 20 10) = _
    simp
  | vtxDiff x y z =>
    change Instr.vtxDiff (bitField (pack10 x y z) 0 10) (bitField (pack10 x y z) 10 10) (bitField (pack10 x y z) 20 10) = _
    simp
  | vtxXy x y =>
    change Instr.vtxXy (bitField (pack16 x y) 0 16) (bitField (pack16 x y) 16 16) = _
    simp
  | vtxXz x z =>
    change Instr.vtxXz (bitField (pack16 x z) 0 16) (bitField (pack16 x z) 16 16) = _
    simp
  | vtxYz y z =>
    change Instr.vtxYz (bitField (pack16 y z) 0 16) (bitField (pack16 y z) 16 16) = _
    simp
  | _ => rfl

/-- The encoder writes the words the opcode's arity asks for (R91, R96). -/
theorem length_params {i : Instr} (h : i.wf = true) : i.params.length = arity i.opcode := by
  cases i with
  | undef op => exact Arity.undef op h
  | mtxLoad4x4 | mtxLoad4x3 | mtxMult4x4 | mtxMult4x3 | mtxMult3x3 | shininess => exact Vector.length_toList
  | _ => rfl

/-- Under any arity table, words that are as many as the table says are consumed whole, and what follows is left (R97). -/
theorem decodeCommandBy_append {ar : Byte → Nat} (free : Nat → Word) {op : Byte} {P : List Word} (rest : List Word)
    (h : P.length = ar op) : decodeCommandBy ar free op (P ++ rest) = .ok (commandOf op free P, rest) := by
  rw [decodeCommandBy_ok_iff, ← h]
  simp

/-- Under the default table nothing is free: the command is what the row builds from the words. -/
theorem decodeCommandBy_arity_append (free : Nat → Word) {op : Byte} {P : List Word} (rest : List Word)
    (h : P.length = arity op) : decodeCommandBy arity free op (P ++ rest) = .ok ((opcodeRow op).build P, rest) := by
  rw [decodeCommandBy_append free rest h, commandOf_of_le h.ge]

theorem decodeCommand_append {op : Byte} {P : List Word} (rest : List Word) (h : P.length = arity op) :
    decodeCommand op (P ++ rest) = .ok ((opcodeRow op).build P, rest) :=
  decodeCommandBy_arity_append _ rest h

/-- Decoding the encoded words of a well-formed command gives it back, whatever the free words are. -/
theorem decodeCommandBy_params {i : Instr} (h : i.wf = true) (free : Nat → Word) (rest : List Word) :
    decodeCommandBy arity free i.opcode (i.params ++ rest) = .ok (i, rest) := by
  rw [decodeCommandBy_arity_append free rest (length_params h), build_params h]

/-- Settles O3: the words are as many as the arity asks for, and the opcode's row builds the command from them. -/
theorem decodeOfEncodeIsTheCommand : Obligations.DecodeOfEncodeIsTheCommand :=
  fun _ rest h => decodeCommandBy_params h _ rest

/-- Any number of well-formed commands decode in order from their opcodes and, after each other, their parameter words (R91). -/
theorem decodeOpsBy_params (is : List Instr) (h : ∀ i ∈ is, i.wf = true) (free : Nat → Word) (rest : List Word) :
    decodeOpsBy arity free (is.map Instr.opcode) (is.flatMap Instr.params ++ rest) = .ok (is, rest) := by
  induction is generalizing free with
  | nil => rfl
  | cons i is ih =>
    rw [List.forall_mem_cons] at h
    rw [List.map_cons, List.flatMap_cons, List.append_assoc]
    simp only [decodeOpsBy, decodeCommandBy_params h.1, ih h.2]

/-- Settles O4: the packed word unpacks to the four opcodes, and those decode in order. -/
theorem packedWordDecodesInOrder : Obligations.PackedWordDecodesInOrder := by
  intro i0 i1 i2 i3 rest h0 h1 h2 h3
  have h := decodeOpsBy_params [i0, i1, i2, i3] (by simp [h0, h1, h2, h3]) Config.missingParam rest
  simpa [encodePacked, decodeStream, decodeOps] using h

/-- Every row of the opcode map, and the catch-all, builds a well-formed command of its own opcode, from any words. -/
theorem build_wf_opcode (op : Byte) (P : List Word) :
    ((opcodeRow op).build P).wf = true ∧ ((opcodeRow op).build P).opcode = op := by
  cases hf : opcodeRows.find? fun r => r.opcode == op with
  | none =>
    have hu := (isUndefinedOpcode_iff op).2 hf
    rw [opcodeRow_of_undefined hu]
    exact ⟨hu, rfl⟩
  | some r =>
    have hop : r.opcode = op := by simpa using List.find?_some hf
    have rows : ∀ r ∈ opcodeRows, (r.build P).wf = true ∧ (r.build P).opcode = r.opcode := by
      simp [opcodeRows, nopRows, matrixRows, vertexRows, lightRows, frameRows, Instr.wf, Instr.opcode]
    have hr := rows r (List.mem_of_find?_eq_some hf)
    rw [hop] at hr
    simpa [opcodeRow, hf] using hr

theorem commandOf_wf (op : Byte) (free : Nat → Word) (P : List Word) : (commandOf op free P).wf = true :=
  (build_wf_opcode op _).1

theorem commandOf_opcode (op : Byte) (free : Nat → Word) (P : List Word) : (commandOf op free P).opcode = op :=
  (build_wf_opcode op _).2

/-- Settles O2: decoding asks only for the words of the arity table, and the row builds a well-formed command of the opcode. -/
theorem decodeConsumesTheArity : Obligations.DecodeConsumesTheArity := by
  refine fun ar free op P => ⟨fun h => ?_, decodeCommandBy_error, fun hle free' => ?_⟩
  · exact ⟨_, decodeCommandBy_ok_iff.2 ⟨h, rfl, rfl⟩, commandOf_wf .., commandOf_opcode ..⟩
  · obtain h | h := Nat.lt_or_ge P.length (ar op)
    · rw [decodeCommandBy_error h, decodeCommandBy_error h]
    · have hlen : arity op ≤ (P.take (ar op)).length := by simpa [h] using hle
      rw [decodeCommandBy_ok_iff.2 ⟨h, commandOf_of_le hlen, rfl⟩, decodeCommandBy_ok_iff.2 ⟨h, commandOf_of_le hlen, rfl⟩]

/-- A field depends only on the bits a mask keeps, when the mask keeps the whole field (R94). -/
theorem bitField_eq_of_and_eq {w w' m : Word} {lo len : Nat} (hm : bitField m lo len = BitVec.allOnes len)
    (h : w &&& m = w' &&& m) : bitField w lo len = bitField w' lo len := by
  have masked (v : Word) : bitField (v &&& m) lo len = bitField v lo len := by
    calc bitField (v &&& m) lo len = bitField v lo len &&& bitField m lo len := by ext k hk; simp [bitField]
      _ = bitField v lo len := by rw [hm, BitVec.and_allOnes]
  rw [← masked w, ← masked w', h]

/-- Two words from which the row builds the same command decode alike. -/
theorem decodeCommand_congr {op : Byte} {P P' : List Word} (rest : List Word) (h : P.length = arity op)
    (h' : P'.length = arity op) (hb : (opcodeRow op).build P = (opcodeRow op).build P') :
    decodeCommand op (P ++ rest) = decodeCommand op (P' ++ rest) := by
  rw [decodeCommand_append rest h, decodeCommand_append rest h', hb]

/-- Settles O5: the rows of these opcodes build from fields that the masks keep. -/
theorem unnamedParameterBitsAreIgnored : Obligations.UnnamedParameterBitsAreIgnored := by
  refine fun w w' rest => ⟨fun h => ?_, fun h => ?_, fun h => ?_, fun h => ?_, fun p h => ?_⟩
  · have f : bitField w 0 2 = bitField w' 0 2 := bitField_eq_of_and_eq (by decide) h
    exact ⟨decodeCommand_congr (P := [w]) (P' := [w']) rest rfl rfl (congrArg Instr.mtxMode f),
      decodeCommand_congr (P := [w]) (P' := [w']) rest rfl rfl (congrArg Instr.beginVtxs f)⟩
  · have f : bitField w 0 6 = bitField w' 0 6 := bitField_eq_of_and_eq (by decide) h
    exact decodeCommand_congr (P := [w]) (P' := [w']) rest rfl rfl (congrArg Instr.mtxPop f)
  · have f : bitField w 0 5 = bitField w' 0 5 := bitField_eq_of_and_eq (by decide) h
    exact ⟨decodeCommand_congr (P := [w]) (P' := [w']) rest rfl rfl (congrArg Instr.mtxStore f),
      decodeCommand_congr (P := [w]) (P' := [w']) rest rfl rfl (congrArg Instr.mtxRestore f)⟩
  · have x : bitField w 0 10 = bitField w' 0 10 := bitField_eq_of_and_eq (by decide) h
    have y : bitField w 10 10 = bitField w' 10 10 := bitField_eq_of_and_eq (by decide) h
    have z : bitField w 20 10 = bitField w' 20 10 := bitField_eq_of_and_eq (by decide) h
    have fields {α : Type} (f : BitVec 10 → BitVec 10 → BitVec 10 → α) :
        f (bitField w 0 10) (bitField w 10 10) (bitField w 20 10) =
          f (bitField w' 0 10) (bitField w' 10 10) (bitField w' 20 10) := by rw [x, y, z]
    exact ⟨decodeCommand_congr (P := [w]) (P' := [w']) rest rfl rfl (fields Instr.vtx10),
      decodeCommand_congr (P := [w]) (P' := [w']) rest rfl rfl (fields Instr.vtxDiff)⟩
  · have z : bitField w 0 16 = bitField w' 0 16 := bitField_eq_of_and_eq (by decide) h
    exact ⟨decodeCommand_congr (P := [p, w]) (P' := [p, w']) rest rfl rfl (congrArg (Instr.vtx16 _ _) z),
      decodeCommand_congr (P := [p, w]) (P' := [p, w']) rest rfl rfl (congrArg (Instr.posTest _ _) z)⟩

/-- The bytes R98 lists are those R96's table does not. -/
theorem isUndefinedOpcode_iff_not_mem (op : Byte) :
    isUndefinedOpcode op = true ↔ op ∉ definedOpcodes.map Prod.fst := by
  revert op; decide

/-- Settles O1: the 38 arities by evaluation, the others because an undefined opcode has the catch-all row. -/
theorem arityTableMatchesTheMap : Obligations.ArityTableMatchesTheMap := by
  refine ⟨by decide, fun op h => ?_, default_arityOf⟩
  rw [default_arityOf, arity_of_undefined ((isUndefinedOpcode_iff_not_mem op).2 h)]

/-- A vector operand is built from the vector's words. -/
theorem decodeCommand_vector {n : Nat} {op : Byte} {f : Vector Word n → Instr} (a : Vector Word n) (rest : List Word)
    (hn : n = arity op) (hb : ∀ P, (opcodeRow op).build P = f (paramVec n P)) :
    decodeCommand op (a.toList ++ rest) = .ok (f a, rest) := by
  rw [decodeCommand_append rest (by simpa using hn), hb, paramVec_toList]

/-- Settles O6: the row of each opcode, applied to the words its arity asks for. -/
theorem fieldsAreReadFromTheirBits : Obligations.FieldsAreReadFromTheirBits := by
  intro p q r rest
  have none (op : Byte) (h : 0 = arity op) := decodeCommand_append (P := []) rest h
  have one (op : Byte) (h : 1 = arity op) := decodeCommand_append (P := [p]) rest h
  have two (op : Byte) (h : 2 = arity op) := decodeCommand_append (P := [p, q]) rest h
  have three (op : Byte) (h : 3 = arity op) := decodeCommand_append (P := [p, q, r]) rest h
  refine ⟨⟨none _ rfl, none _ rfl, none _ rfl, none _ rfl⟩, ⟨one _ rfl, one _ rfl, one _ rfl, one _ rfl⟩,
    fun a => ⟨?_, ?_⟩, fun a => ⟨?_, ?_⟩, fun a => ?_, ⟨three _ rfl, three _ rfl⟩, ⟨one _ rfl, one _ rfl, one _ rfl⟩,
    ⟨two _ rfl, one _ rfl, one _ rfl, one _ rfl, one _ rfl, one _ rfl⟩, ⟨one _ rfl, one _ rfl, one _ rfl⟩,
    ⟨one _ rfl, one _ rfl, one _ rfl, one _ rfl⟩, fun a => ?_, ⟨one _ rfl, one _ rfl, one _ rfl⟩,
    ⟨three _ rfl, two _ rfl, one _ rfl⟩, fun op h => ?_⟩
  case refine_7 =>
    have hu := (isUndefinedOpcode_iff_not_mem op).2 h
    exact (none op (arity_of_undefined hu).symm).trans (by rw [opcodeRow_of_undefined hu]; rfl)
  all_goals exact decodeCommand_vector a rest rfl fun _ => rfl

/-- Settles O7: the decoder evaluated on each stream. -/
theorem exampleWordsDecode : Obligations.ExampleWordsDecode := by
  unfold Obligations.ExampleWordsDecode
  decide

end Sys2Proof.Laws
end

section
/-! PROOFS. Which command writes which element (spec/10_state.md): the inversion of `exec` by kinds of command, and the writers' rules
that follow from it. -/

namespace Sys2Proof.Laws

open Sys2Proof.Machine Sys2Proof.Claims

/-- The accumulator a vertex command leaves (R212 to R217); every other command leaves it. -/
def vertexCur (i : Instr) (s : State) : Reg Vec4 :=
  match i with
  | .vtx16 x y z => .of ⟨fx16 s.params x, fx16 s.params y, fx16 s.params z, 1⟩
  | .vtx10 x y z => .of ⟨fx10 s.params x, fx10 s.params y, fx10 s.params z, 1⟩
  | .vtxXy x y => s.cur.map fun v => ⟨fx16 s.params x, fx16 s.params y, v.z, 1⟩
  | .vtxXz x z => s.cur.map fun v => ⟨fx16 s.params x, v.y, fx16 s.params z, 1⟩
  | .vtxYz y z => s.cur.map fun v => ⟨v.x, fx16 s.params y, fx16 s.params z, 1⟩
  | .vtxDiff x y z => s.cur.map fun v =>
      ⟨s.params.num.add v.x (dx10 s.params x), s.params.num.add v.y (dx10 s.params y), s.params.num.add v.z (dx10 s.params z), v.w⟩
  | _ => s.cur

/-- Every vertex command is a new accumulator and then `add_vtx` (R211). -/
theorem effect_vertex {i : Instr} (h : isVertexCommand i = true) (s : State) :
    effect i s = addVtx { s with cur := vertexCur i s } := by
  cases i with
  | vtx16 | vtx10 | vtxXy | vtxXz | vtxYz | vtxDiff => rfl
  | _ => cases h

/-- What a command may have written when it completes with the next state given last: by kinds of command, each with the elements the
spec names for it. -/
inductive Wrote (s : State) : Instr → State → Prop where
  /-- A matrix command (R171 to R185): `mode`, the current matrices, the stacks and their pointers, the published depths, and, for a
  push or a pop only, `err`, which is set. A new `mode` is written. The stack keeps its slots, and its pointer stays, grows within
  the depth, or wraps. -/
  | matrix {i : Instr} (isMatrix : isMatrixCommand i = true) (m : Reg MatrixMode) (proj pos vec projStack : Reg Mat4)
      (projSp : Fin 2) (posStack vecStack : List (Reg Mat4)) (pvSp : Nat) (err : Bool)
      (modeMark : m = s.mode ∨ m.written = true) (posSlots : posStack.length = s.posStack.length) (vecSlots : vecStack.length = s.vecStack.length)
      (pointer : pvSp = s.pvSp ∨ pvSp ≤ s.params.pvStackDepth ∨ ∃ n, pvSp = wrapSlot s.params n)
      (sticky : err = s.err ∨ err = true ∧ (i = .mtxPush ∨ ∃ n, i = .mtxPop n)) :
      Wrote s i { s with
        mode := m, proj := proj, pos := pos, vec := vec, projStack := projStack, projSp := projSp, posStack := posStack,
        vecStack := vecStack, pvSp := pvSp, err := err, stProjDepth := projSp, stPvDepth := pvSp }
  /-- A vertex command (R211 to R217). -/
  | vertex {i : Instr} (isVertex : isVertexCommand i = true) : Wrote s i (addVtx { s with cur := vertexCur i s })
  /-- BEGIN_VTXS (R241). -/
  | beginVtxs (t : BitVec 2) : Wrote s (.beginVtxs t) (updateClip { s with prim := .of (primitiveModeOf t), cnt := 0 })
  /-- POS_TEST (R218). -/
  | posTest (x y z : BitVec 16) (v : Vec4) (r : Reg (Vector Word 4)) (d : Nat) (affine : v.w = 1)
      (mark : r.written = (s.proj.written && s.pos.written)) :
      Wrote s (.posTest x y z) { updateClip s with cur := .of v, posResult := r, draws := d }
  /-- SWAP_BUFFERS (R260 to R263). -/
  | swapBuffers (p : Word) : Wrote s (.swapBuffers p)
      { s with fb := ⟨renderPass s.params s.vtx s.poly, s.storeWritten⟩, vtx := [], poly := [], storeWritten := true }
  /-- BOX_TEST (R305). -/
  | boxTest (p q r : Word) (b : Bool) : Wrote s (.boxTest p q r) { s with stBoxtest := .of b, draws := s.draws + 1 }
  /-- The commands without an effect (R242, R290 to R304, R306). -/
  | nothing {i : Instr} (noEffect : hasNoEffect i = true) : Wrote s i s

/-- Rewriting the targets and publishing the depths is within what a matrix command may write. -/
theorem wrote_mapTargets {i : Instr} (h : isMatrixCommand i = true) (both : Bool) (f : Reg Mat4 → Reg Mat4) (s : State) :
    Wrote s i (publishDepths (mapTargets both f s)) := by
  obtain ⟨p, q, v, e⟩ := mapTargets_shape both f s
  rw [e]
  exact .matrix h s.mode p q v s.projStack s.projSp s.posStack s.vecStack s.pvSp s.err (.inl rfl) rfl rfl (.inl rfl) (.inl rfl)

/-- A push whose pointer moved stayed within the depth; `err` is only ever set. -/
theorem wrote_push (s : State) : Wrote s .mtxPush (publishDepths (pushCurrent s)) := by
  obtain ⟨a, b, c, d, e, f, h, hc, hd, he, hf⟩ := pushCurrent_shape s
  rw [h]
  refine .matrix rfl s.mode s.proj s.pos s.vec a b c d e f (.inl rfl) hc hd (he.imp_right fun he => .inl he.2) ?_
  cases f with
  | true => exact .inr ⟨rfl, .inl rfl⟩
  | false => exact .inl (by simpa using hf)

theorem wrote_pop (n : BitVec 6) (s : State) : Wrote s (.mtxPop n) (publishDepths (popCurrent (popCount n) s)) := by
  obtain ⟨a, b, c, d, e, f, h, he, hf⟩ := popCurrent_shape (popCount n) s
  rw [h]
  refine .matrix rfl s.mode a c d s.projStack b s.posStack s.vecStack e f (.inl rfl) rfl rfl (he.imp_right fun he => .inr ⟨_, he⟩) ?_
  cases f with
  | true => exact .inr ⟨rfl, .inr ⟨n, rfl⟩⟩
  | false => exact .inl (by simpa using hf)

theorem wrote_store (k : BitVec 5) (s : State) : Wrote s (.mtxStore k) (publishDepths (storeCurrent (slotIndex k) s)) := by
  obtain ⟨a, b, c, h, hb, hc⟩ := storeCurrent_shape (slotIndex k) s
  rw [h]
  exact .matrix rfl s.mode s.proj s.pos s.vec a s.projSp b c s.pvSp s.err (.inl rfl) hb hc (.inl rfl) (.inl rfl)

theorem wrote_restore (k : BitVec 5) (s : State) :
    Wrote s (.mtxRestore k) (publishDepths (restoreCurrent (slotIndex k) s)) := by
  obtain ⟨p, q, v, h⟩ := restoreCurrent_shape (slotIndex k) s
  rw [h]
  exact .matrix rfl s.mode p q v s.projStack s.projSp s.posStack s.vecStack s.pvSp s.err (.inl rfl) rfl rfl (.inl rfl) (.inl rfl)

/-- MTX_MODE with a field that names a mode selects it and publishes the depths (R172). -/
theorem effect_mtxMode {m : BitVec 2} {v : MatrixMode} (h : matrixModeOf m = some v) (s : State) :
    effect (.mtxMode m) s = publishDepths { s with mode := .of v } := by
  simp only [effect, h]

/-- The inversion of `exec`: a command that completes has written no more than its kind may. -/
theorem exec_wrote {i : Instr} {s t : State} (h : exec i s = .next t) : Wrote s i t := by
  obtain ⟨hr, rfl⟩ := exec_eq_next h
  cases i with
  | mtxMode m =>
    obtain ⟨v, hv⟩ := Option.isSome_iff_exists.1 ((matrixModeOf_isSome_iff m).2 fun e => runs_ne hr (by rw [e]))
    rw [effect_mtxMode hv]
    exact .matrix rfl (.of v) s.proj s.pos s.vec s.projStack s.projSp s.posStack s.vecStack s.pvSp s.err (.inr rfl) rfl rfl
      (.inl rfl) (.inl rfl)
  | mtxPush => exact wrote_push s
  | mtxPop n => exact wrote_pop n s
  | mtxStore k => exact wrote_store k s
  | mtxRestore k => exact wrote_restore k s
  | mtxIdentity | mtxLoad4x4 | mtxLoad4x3 | mtxMult4x4 | mtxMult4x3 | mtxMult3x3 | mtxScale | mtxTrans =>
    exact wrote_mapTargets rfl _ _ s
  | vtx16 | vtx10 | vtxXy | vtxXz | vtxYz | vtxDiff => exact .vertex rfl
  | beginVtxs t => exact .beginVtxs t
  | posTest x y z => exact .posTest x y z _ _ _ rfl rfl
  | swapBuffers p => exact .swapBuffers p
  | boxTest p q r => exact .boxTest p q r _
  | _ => exact .nothing rfl

/-- Settles O16: the FIFO's side of the state is no handler's. -/
theorem handlersLeaveTheQueueAlone : Obligations.HandlersLeaveTheQueueAlone := by
  intro i s t h
  have e := exec_fifoSide h
  simp only [fifoSide, FifoSide.mk.injEq] at e
  obtain ⟨-, hcmdq, hparamq, howed, hfill, hstFill, hstEmpty, hstHalf, hirq, henEmpty, henHalf, hinput⟩ := e
  exact ⟨hcmdq, hparamq, howed, hfill, hstFill, hstEmpty, hstHalf, hirq, henEmpty, henHalf, hinput⟩

theorem exec_params {i : Instr} {s t : State} (h : exec i s = .next t) : t.params = s.params :=
  (exec_sameSettings h).params

/-- What the accumulation, the turns of the drain and the status update keep, a submit keeps. -/
theorem submit_induction (P : State → Prop) (haccumulate : ∀ w s, P s → P (accumulate w s))
    (hexec : ∀ i s t, exec i s = .next t → P s → P t) (hdraws : ∀ d s, P s → P { s with draws := d })
    (hremove : ∀ n s, P s → P (removeHead n s)) (hstatus : ∀ s, P s → P (updateStatus s)) {w : Word} {s t : State}
    (h : submit w s = .next t) (hs : P s) : P t := by
  rw [submit, andThen_eq_next] at h
  obtain ⟨u, hu, ht⟩ := h
  cases ht
  refine hstatus u ?_
  unfold drainIfReady at hu
  split at hu
  · exact drain_induction P hexec hdraws hremove _ _ u hu (haccumulate w s hs)
  · cases hu; exact haccumulate w s hs

/-- Settles O58: neither a command nor a submit changes the configuration, and the other events write an enable. -/
theorem configurationIsNeverChanged : Obligations.ConfigurationIsNeverChanged := by
  refine ⟨fun _ _ _ => exec_params, fun s t h => ?_⟩
  obtain ⟨-, e⟩ | ⟨w, rest, -, e⟩ | ⟨b, rest, -, e⟩ | ⟨b, rest, -, e⟩ := step_cases s <;> rw [e] at h
  · cases h; rfl
  · obtain ⟨u, hu, rfl⟩ := submit_eq_next h
    exact hu.params
  · cases h; rfl
  · cases h; rfl

/-- `err` after a command is what it was, or it is set and the command is a push or a pop (R174, R175). -/
theorem exec_err {i : Instr} {s t : State} (h : exec i s = .next t) :
    t.err = s.err ∨ t.err = true ∧ (i = .mtxPush ∨ ∃ n, i = .mtxPop n) := by
  cases exec_wrote h with
  | matrix _ _ _ _ _ _ _ _ _ _ _ _ _ _ _ sticky => exact sticky
  | vertex _ =>
    obtain ⟨_, _, _, _, e⟩ := addVtx_shape s (vertexCur i s)
    exact .inl (by rw [e])
  | beginVtxs | posTest | swapBuffers | boxTest | nothing => exact .inl rfl

theorem accumulate_err (w : Word) (s : State) : (accumulate w s).err = s.err := by
  unfold accumulate
  split
  · rw [commandPhase, foldl_enqueueOp]
  · rfl

/-- Settles O23: no command clears the flag, and the rest of a step leaves it alone. -/
theorem errorFlagIsSticky : Obligations.ErrorFlagIsSticky := by
  refine ⟨fun s t h hs => ?_, fun i s t h hne => (exec_err h).resolve_left hne⟩
  obtain ⟨-, e⟩ | ⟨w, rest, -, e⟩ | ⟨b, rest, -, e⟩ | ⟨b, rest, -, e⟩ := step_cases s <;> rw [e] at h
  · cases h; exact hs
  · refine submit_induction (fun s => s.err = true) (fun w s hs => ?_) (fun i s t h hs => ?_) (fun _ _ => id) (fun _ _ => id)
      (fun _ => id) h hs
    · rw [accumulate_err]; exact hs
    · obtain e | ⟨e, -⟩ := exec_err h
      · rw [e]; exact hs
      · exact e
  · cases h; exact hs
  · cases h; exact hs

/-- Settles O38: outside the matrix commands nothing of the matrix state is in what a command writes. -/
theorem onlyMatrixCommandsWriteTheMatrices : Obligations.OnlyMatrixCommandsWriteTheMatrices := by
  intro i s t hm h
  cases exec_wrote h with
  | matrix isMatrix => rw [isMatrix] at hm; cases hm
  | vertex _ =>
    obtain ⟨_, _, _, _, e⟩ := addVtx_shape s (vertexCur i s)
    simp [e]
  | beginVtxs | posTest | swapBuffers | boxTest | nothing => simp

/-- Settles O39: `update_clip` is in BEGIN_VTXS and POS_TEST only, and the two other results have one writer each. -/
theorem clipIsRecomputedOnlyAtBeginAndPosTest : Obligations.ClipIsRecomputedOnlyAtBeginAndPosTest := by
  intro i s t h
  cases exec_wrote h with
  | matrix _ => simp
  | vertex _ =>
    obtain ⟨_, _, _, _, e⟩ := addVtx_shape s (vertexCur i s)
    simp [e]
  | beginVtxs | posTest => simp [recomputesClip]
  | swapBuffers | boxTest | nothing => simp

/-- Settles O40: the vertex commands append to the stores; the other writers are the commands the spec names. -/
theorem frameStateHasItsNamedWriters : Obligations.FrameStateHasItsNamedWriters := by
  intro i s t h
  cases exec_wrote h with
  | matrix _ => simp
  | vertex isVertex =>
    obtain ⟨v, n, q, _, e⟩ := addVtx_shape s (vertexCur i s)
    simp [e, isVertex]
  | beginVtxs | posTest | swapBuffers | boxTest | nothing => simp

/-- Settles O28: MTX_MODE evaluated on the four values of its field. -/
theorem mtxModeSelectsTheMode : Obligations.MtxModeSelectsTheMode :=
  fun _ => ⟨rfl, rfl, rfl, rfl⟩

/-- Settles O55: BOX_TEST writes the next free bit. -/
theorem boxTestWritesOnlyItsFlag : Obligations.BoxTestWritesOnlyItsFlag :=
  fun _ _ _ s => ⟨Config.freeBit s.draws, rfl⟩

end Sys2Proof.Laws
end

section
/-! PROOFS. The FIFO (spec/41_fifo.md): what a word adds to the queues, what a turn of the drain does, and that a command submitted word
by word runs its meaning. -/

namespace Sys2Proof.Laws

open Sys2Proof.Machine Sys2Proof.Claims

/-- A command word with nothing owed (R142). -/
theorem accumulate_command {s : State} (h : s.owed = 0) (w : Word) : accumulate w s = { s with
    cmdq := s.cmdq ++ unpack w
    owed := ((unpack w).map s.params.arityOf).sum
    fill := s.fill + (unpack w).countP fun op => s.params.arityOf op = 0 } := by
  rw [accumulate, if_pos h, commandPhase, foldl_enqueueOp, h, Nat.zero_add]

/-- A parameter word (R143). -/
theorem accumulate_parameter {s : State} (h : s.owed ≠ 0) (w : Word) : accumulate w s = parameterPhase w s := if_neg h

/-- Settles O8: the four bytes are what `unpack` names. -/
theorem commandWordIsAccumulated : Obligations.CommandWordIsAccumulated := fun w _ h => accumulate_command h w

/-- Settles O9: by the test of R141. -/
theorem parameterWordIsAccumulated : Obligations.ParameterWordIsAccumulated := fun w _ h => accumulate_parameter h w

/-- A submit that leaves parameters owed drains nothing (R145). -/
theorem submit_of_owed {w : Word} {s : State} (h : (accumulate w s).owed ≠ 0) :
    submit w s = .next (updateStatus (accumulate w s)) := by
  rw [submit, drainIfReady, if_neg h, andThen_next]

/-- A submit that leaves nothing owed drains the queue (R141). -/
theorem submit_of_ready {w : Word} {s : State} (h : (accumulate w s).owed = 0) :
    submit w s = andThen (drain (accumulate w s).cmdq.length (accumulate w s)) fun t => .next (updateStatus t) := by
  rw [submit, drainIfReady, if_pos h]

/-- Settles O10: with something owed the drain is not entered. -/
theorem nothingExecutesWhileParametersAreOwed : Obligations.NothingExecutesWhileParametersAreOwed := by
  intro w rest s hin howed
  rw [step_of_submit hin, submit_of_owed howed]

/-- Settles O15: by the event each clause names. -/
theorem enableWritesMoveOnlyTheEnables : Obligations.EnableWritesMoveOnlyTheEnables := by
  refine fun b rest s => ⟨fun h => ?_, fun h => ?_, fun h => ?_⟩ <;> simp [step, h, applyEvent]

/-- The removal of the head, with the number of its fill units as the rule writes it (R147). -/
theorem removeHead_eq_headRemoved (n : Nat) (s : State) : removeHead n s = headRemoved n s := by
  have h : max 1 n = if n = 0 then 1 else n := by split <;> omega
  rw [removeHead, headRemoved, h]

/-- A command leaves the queues, and with them what a decoder reads, as they were (R153). -/
theorem exec_cmdq {i : Instr} {s t : State} (h : exec i s = .next t) : t.cmdq = s.cmdq :=
  congrArg FifoSide.cmdq (exec_fifoSide h)

theorem exec_paramq {i : Instr} {s t : State} (h : exec i s = .next t) : t.paramq = s.paramq :=
  congrArg FifoSide.paramq (exec_fifoSide h)

/-- The words missing at the head are those the rule reads beyond the table's (R146), when the table's have arrived. -/
theorem missingWords_eq {s : State} {op : Byte} (h : s.params.arityOf op ≤ s.paramq.length) :
    missingWords op s = arity op - s.params.arityOf op := by
  simp [missingWords, headParams, arity, h]

/-- Two continuations that agree on the next state the first outcome reaches. -/
theorem andThen_congr {o : Host.Outcome State Fault Refusal} {f g : State → Host.Outcome State Fault Refusal}
    (h : ∀ t, o = .next t → f t = g t) : andThen o f = andThen o g := by
  cases o with
  | next t => exact h t rfl
  | fault | refused => rfl

/-- Settles O12: one turn of the loop, where the draw counter moves by the words that are missing. -/
theorem drainRunsTheHeadCommand : Obligations.DrainRunsTheHeadCommand := by
  intro s op ops i left hq hd
  obtain ⟨hl, rfl, -⟩ := decodeCommandBy_ok_iff.1 hd
  rw [show s.cmdq.length = ops.length + 1 by simp [hq], drain_cons _ hq, dispatchHead, andThen_assoc, executeHead,
    missingWords_eq hl, headParams]
  exact andThen_congr fun t _ => by rw [andThen_next, removeHead_eq_headRemoved]

/-- The two parts of decoding a list of opcodes: the head decodes, and the others decode from what it leaves (R91). -/
theorem decodeOpsBy_cons_ok {ar : Byte → Nat} {free : Nat → Word} {op : Byte} {ops : List Byte} {P left : List Word}
    {is : List Instr} (h : decodeOpsBy ar free (op :: ops) P = .ok (is, left)) :
    ∃ i P' is' free', is = i :: is' ∧ decodeCommandBy ar free op P = .ok (i, P') ∧
      decodeOpsBy ar free' ops P' = .ok (is', left) := by
  rw [decodeOpsBy] at h
  split at h
  · cases h
  next i P' hi =>
    split at h
    · cases h
    next is' left' his =>
      cases h
      exact ⟨i, P', is', _, rfl, hi, his⟩

/-- The drain of queues that decode runs the decoded commands in order, each removed when it is done (R146, R147): by induction over
the queue. -/
theorem drain_eq_runCommands (ops : List Byte) : ∀ {s : State} {free : Nat → Word} {is : List Instr} {left : List Word},
    s.cmdq = ops → (∀ op ∈ ops, arity op ≤ s.params.arityOf op) →
    decodeOpsBy s.params.arityOf free ops s.paramq = .ok (is, left) → drain ops.length s = runCommands (ops.zip is) s := by
  induction ops with
  | nil => intro s free is left hq _ _; exact drain_nil _ hq
  | cons op ops ih =>
    intro s free is left hq har hd
    obtain ⟨i, P', is, free', rfl, hi, his⟩ := decodeOpsBy_cons_ok hd
    rw [List.forall_mem_cons] at har
    rw [List.length_cons, drain_cons _ hq, dispatchHead_of_decode har.1 hi, List.zip_cons_cons, runCommands, andThen_assoc]
    refine andThen_congr fun t ht => ?_
    have hp : (headRemoved (s.params.arityOf op) t).params = s.params := (exec_params ht : t.params = s.params)
    have hleft : s.paramq.drop (s.params.arityOf op) = P' := (decodeCommandBy_ok_iff.1 hi).2.2
    rw [andThen_next, removeHead_eq_headRemoved]
    refine ih (free := free') (left := left) ?_ ?_ ?_
    · simp [headRemoved, exec_cmdq ht, hq]
    · rw [hp]; exact har.2
    · rw [hp, headRemoved, exec_paramq ht, hleft]; exact his

/-- Settles O11: the submit drains the queues it has accumulated, and those decode. -/
theorem stepRunsTheQueuedCommands : Obligations.StepRunsTheQueuedCommands := by
  intro w rest s free is left hin a howed har hd
  have hp : a.params = s.params := accumulate_params w { s with input := rest }
  rw [step_of_submit hin, submit_of_ready howed]
  rw [← hp] at har hd
  rw [drain_eq_runCommands a.cmdq rfl har hd]

/-- The part of the state a submit works on around the commands: the queues, the counters, the queue status, `irq` and the pending
input (R24 to R27, R40). -/
structure QueueSide where
  cmdq : List Byte
  paramq : List Word
  owed : Nat
  fill : Nat
  stFill : Nat
  stEmpty : Bool
  stHalf : Bool
  irq : Bool
  input : List Event

/-- `s` with another queue side. -/
def withQueue (q : QueueSide) (s : State) : State :=
  { s with
    cmdq := q.cmdq, paramq := q.paramq, owed := q.owed, fill := q.fill, stFill := q.stFill, stEmpty := q.stEmpty,
    stHalf := q.stHalf, irq := q.irq, input := q.input }

/-- The queue side of a state. -/
def queueSide (s : State) : QueueSide :=
  ⟨s.cmdq, s.paramq, s.owed, s.fill, s.stFill, s.stEmpty, s.stHalf, s.irq, s.input⟩

theorem mapTargets_withQueue (both : Bool) (f : Reg Mat4 → Reg Mat4) (q : QueueSide) (s : State) :
    mapTargets both f (withQueue q s) = withQueue q (mapTargets both f s) := by
  unfold mapTargets
  rw [show (withQueue q s).mode = s.mode from rfl]
  cases s.mode.val <;> rfl

theorem pushCurrent_withQueue (q : QueueSide) (s : State) : pushCurrent (withQueue q s) = withQueue q (pushCurrent s) := by
  unfold pushCurrent
  rw [show (withQueue q s).mode = s.mode from rfl]
  cases s.mode.val <;> simp only [apply_ite (withQueue q)] <;> rfl

theorem popCurrent_withQueue (n : Int) (q : QueueSide) (s : State) :
    popCurrent n (withQueue q s) = withQueue q (popCurrent n s) := by
  unfold popCurrent
  rw [show (withQueue q s).mode = s.mode from rfl]
  cases s.mode.val <;> rfl

theorem storeCurrent_withQueue (k : Nat) (q : QueueSide) (s : State) :
    storeCurrent k (withQueue q s) = withQueue q (storeCurrent k s) := by
  unfold storeCurrent
  rw [show (withQueue q s).mode = s.mode from rfl]
  cases s.mode.val <;> rfl

theorem restoreCurrent_withQueue (k : Nat) (q : QueueSide) (s : State) :
    restoreCurrent k (withQueue q s) = withQueue q (restoreCurrent k s) := by
  unfold restoreCurrent
  rw [show (withQueue q s).mode = s.mode from rfl]
  cases s.mode.val <;> rfl

theorem assemble_withQueue (q : QueueSide) (s : State) : assemble (withQueue q s) = withQueue q (assemble s) := by
  unfold assemble
  rw [show (withQueue q s).prim = s.prim from rfl, show (withQueue q s).cnt = s.cnt from rfl,
    show (withQueue q s).vtx = s.vtx from rfl]
  cases (polygonOffsets s.prim.val s.cnt).bind (resolvePolygon s.vtx.length) with
  | none => rfl
  | some p =>
    simp only [emitPolygon, apply_ite (withQueue q)]
    rfl

theorem addVtx_withQueue (q : QueueSide) (s : State) (c : Reg Vec4) :
    addVtx { withQueue q s with cur := c } = withQueue q (addVtx { s with cur := c }) := by
  simp only [addVtx, apply_ite (withQueue q), ← assemble_withQueue]
  rfl

/-- No effect reads the queue side (R153). -/
theorem effect_withQueue (i : Instr) (q : QueueSide) (s : State) : effect i (withQueue q s) = withQueue q (effect i s) := by
  cases i with
  | mtxMode m =>
    rw [effect, effect]
    split <;> rfl
  | mtxPush => exact congrArg publishDepths (pushCurrent_withQueue q s)
  | mtxPop n => exact congrArg publishDepths (popCurrent_withQueue _ q s)
  | mtxStore k => exact congrArg publishDepths (storeCurrent_withQueue _ q s)
  | mtxRestore k => exact congrArg publishDepths (restoreCurrent_withQueue _ q s)
  | mtxIdentity | mtxLoad4x4 | mtxLoad4x3 | mtxMult4x4 | mtxMult4x3 | mtxMult3x3 | mtxScale | mtxTrans =>
    exact congrArg publishDepths (mapTargets_withQueue _ _ q s)
  | vtx16 | vtx10 | vtxXy | vtxXz | vtxYz | vtxDiff => exact addVtx_withQueue q s _
  | _ => rfl

/-- Whether a command runs does not depend on the queue side. -/
theorem withinBoot_withQueue (i : Instr) (q : QueueSide) (s : State) : withinBoot i (withQueue q s) = withinBoot i s := by
  cases i <;> rfl

/-- A command executed under another queue side does the same and leaves that queue side (R153). -/
theorem exec_withQueue (i : Instr) (q : QueueSide) (s : State) :
    exec i (withQueue q s) = andThen (exec i s) fun t => .next (withQueue q t) := by
  have hruns : Runs i (withQueue q s) ↔ Runs i s := by rw [Runs, withinBoot_withQueue]; rfl
  by_cases h : Runs i s
  · rw [exec_eq_effect h, exec_eq_effect (hruns.2 h), effect_withQueue, andThen_next]
  · rw [exec_of_not_runs h, exec_of_not_runs (mt hruns.1 h), andThen_refused]

/-- Another queue side with the same queues, counters and input is no difference once the status is republished. -/
theorem updateStatus_withQueue {q : QueueSide} {s : State} (hcmdq : q.cmdq = s.cmdq) (hparamq : q.paramq = s.paramq)
    (howed : q.owed = s.owed) (hfill : q.fill = s.fill) (hinput : q.input = s.input) :
    updateStatus (withQueue q s) = updateStatus s := by
  simp only [updateStatus, withQueue, hcmdq, hparamq, howed, hfill, hinput]

/-- `k` steps of the machine handed to the host, at the model's own types. -/
def runSteps (k : Nat) (s : State) : Host.Outcome State Fault Refusal := Host.Core.run Sys2Proof.core k s

/-- One step of a run, when it has a next state. -/
theorem runSteps_succ {s t : State} (k : Nat) (h : step s = .next t) : runSteps (k + 1) s = runSteps k t := by
  rw [runSteps, run_succ, h]; rfl

theorem runSteps_one (s : State) : runSteps 1 s = step s := by
  rw [runSteps, run_succ]; exact andThen_next_right _

/-- The queue side after `update_status`. -/
def published (q : QueueSide) (s : State) : QueueSide := queueSide (updateStatus (withQueue q s))

/-- A word that leaves parameters owed is one step of a run, and moves the queue side only (R145). -/
theorem runSteps_waiting {q q' : QueueSide} {s : State} {w : Word} {rest : List Event} (k : Nat)
    (hin : q.input = .submit w :: rest) (ha : accumulate w (withQueue { q with input := rest } s) = withQueue q' s)
    (howed : q'.owed ≠ 0) : runSteps (k + 1) (withQueue q s) = runSteps k (withQueue (published q' s) s) := by
  have hstep : step (withQueue q s) = submit w (withQueue { q with input := rest } s) := step_of_submit hin
  refine runSteps_succ k ?_
  rw [hstep, submit_of_owed (by rw [ha]; exact howed), ha]
  rfl

/-- A word that leaves nothing owed drains the queue (R141). -/
theorem runSteps_ready {q q' : QueueSide} {s : State} {w : Word} {rest : List Event}
    (hin : q.input = .submit w :: rest) (ha : accumulate w (withQueue { q with input := rest } s) = withQueue q' s)
    (howed : q'.owed = 0) :
    runSteps 1 (withQueue q s) = andThen (drain q'.cmdq.length (withQueue q' s)) fun t => .next (updateStatus t) := by
  have hstep : step (withQueue q s) = submit w (withQueue { q with input := rest } s) := step_of_submit hin
  rw [runSteps_one, hstep, submit_of_ready (by rw [ha]; exact howed), ha]
  rfl

/-- The submits that complete a queue: with `ws.length + 1` words owed and that many to come, all but the last only queue them, and the
last drains the queue (R143, R145). -/
theorem runSteps_parameters (s : State) (ws : List Word) : ∀ (q : QueueSide) (w : Word), q.owed = ws.length + 1 →
    q.input = (ws ++ [w]).map Event.submit → ∃ q' : QueueSide,
    q'.cmdq = q.cmdq ∧ q'.paramq = q.paramq ++ (ws ++ [w]) ∧ q'.owed = 0 ∧ q'.fill = q.fill + (ws.length + 1) ∧
    q'.input = [] ∧
    runSteps (ws.length + 1) (withQueue q s) = andThen (drain q.cmdq.length (withQueue q' s)) fun t => .next (updateStatus t) := by
  induction ws with
  | nil =>
    intro q w howed hin
    have hpos : q.owed ≠ 0 := by simp [howed]
    let q₁ : QueueSide := { q with paramq := q.paramq ++ [w], owed := q.owed - 1, fill := q.fill + 1, input := [] }
    have howed₁ : q₁.owed = 0 := by simp [q₁, howed]
    exact ⟨q₁, rfl, rfl, howed₁, rfl, rfl, runSteps_ready hin (accumulate_parameter hpos w) howed₁⟩
  | cons v ws ih =>
    intro q w howed hin
    let q₁ : QueueSide :=
      { q with paramq := q.paramq ++ [v], owed := q.owed - 1, fill := q.fill + 1, input := (ws ++ [w]).map .submit }
    have hpos : q.owed ≠ 0 := by simp [howed]
    have howed₁ : q₁.owed = ws.length + 1 := by simp [q₁, howed]
    obtain ⟨q', hcmdq, hparamq, howed', hfill, hinput, hrun⟩ := ih (published q₁ s) w howed₁ rfl
    refine ⟨q', hcmdq, by rw [hparamq]; simp [published, queueSide, withQueue, q₁], howed', ?_, hinput, ?_⟩
    · rw [hfill, List.length_cons]
      simp only [published, queueSide, withQueue, updateStatus_fill, q₁]
      omega
    · rw [List.length_cons, runSteps_waiting (q' := q₁) _ hin (accumulate_parameter hpos v) (by omega), hrun]
      rfl

/-- The submission of a command to an idle block drains the command and the three NOPs of its padding, in the state it began with but
for the queue side (R101, R141). -/
theorem runSteps_encode {i : Instr} {s : State} (har : ∀ op, s.params.arityOf op = arity op) (hwf : i.wf = true) (hs : s.Idle) :
    ∃ q : QueueSide, q.cmdq = [i.opcode, 0, 0, 0] ∧ q.paramq = i.params ∧ q.owed = 0 ∧ q.fill = 3 + max 1 i.params.length ∧
      q.input = [] ∧
      runSteps (encode i).length { s with input := (encode i).map Event.submit } =
        andThen (drain 4 (withQueue q s)) fun t => .next (updateStatus t) := by
  obtain ⟨hcmdq, hparamq, howed, hfill⟩ := hs
  let q₀ : QueueSide := { queueSide s with input := (encode i).map .submit }
  let q₁ : QueueSide := { queueSide s with
    cmdq := [i.opcode, 0, 0, 0]
    owed := i.params.length
    fill := if i.params.length = 0 then 4 else 3
    input := i.params.map .submit }
  have hnop : arity 0#8 = 0 := rfl
  have ha : accumulate (packOps i.opcode 0 0 0) (withQueue { q₀ with input := i.params.map .submit } s) = withQueue q₁ s := by
    rw [accumulate_command (by exact howed)]
    by_cases h : i.params.length = 0 <;>
      simp [withQueue, queueSide, q₀, q₁, hcmdq, hfill, har, ← length_params hwf, hnop, h]
  obtain hP | ⟨ws, w, hP⟩ := List.eq_nil_or_concat i.params
  · refine ⟨q₁, rfl, by rw [hP]; exact hparamq, by simp [q₁, hP], by simp [q₁, hP], by simp [q₁, hP], ?_⟩
    rw [show (encode i).length = 1 by simp [encode, hP]]
    exact runSteps_ready (q := q₀) rfl ha (by simp [q₁, hP])
  · have hlen : i.params.length = ws.length + 1 := by simp [hP]
    obtain ⟨q, hqc, hqp, hqo, hqf, hqi, hrun⟩ := runSteps_parameters s ws (published q₁ s) w hlen
      (show i.params.map Event.submit = _ by rw [hP, List.concat_eq_append])
    refine ⟨q, hqc, ?_, hqo, ?_, hqi, ?_⟩
    · rw [hqp, hP, List.concat_eq_append]
      simp [published, queueSide, withQueue, q₁, hparamq]
    · rw [hqf, hlen]
      simp only [published, queueSide, withQueue, updateStatus_fill, q₁, hlen]
      simp
    · rw [show (encode i).length = ws.length + 1 + 1 by simp [encode, hP]]
      exact (runSteps_waiting (q := q₀) _ rfl ha (by simp [q₁, hlen])).trans hrun

@[simp] theorem exec_nop (s : State) : exec .nop s = .next s := rfl

@[simp] theorem withQueue_params (q : QueueSide) (s : State) : (withQueue q s).params = s.params := rfl

/-- A removal works on the queue side (R147). -/
theorem headRemoved_withQueue (n : Nat) (q : QueueSide) (s : State) : headRemoved n (withQueue q s) =
    withQueue { q with
      cmdq := q.cmdq.tail, paramq := q.paramq.drop n, fill := q.fill - if n = 0 then 1 else n } s := rfl

/-- Settles O13: the submission drains the queue `[i, NOP, NOP, NOP]`, which decodes to just that; `i` does there what it does in `s`,
as no command reads the queue side, and the removals leave the queues empty, as they were. -/
theorem submittedCommandRunsItsMeaning : Obligations.SubmittedCommandRunsItsMeaning := by
  intro i s har hwf hs hin
  obtain ⟨q, hqc, hqp, hqo, hqf, hqi, hrun⟩ := runSteps_encode har hwf hs
  obtain ⟨hcmdq, hparamq, howed, hfill⟩ := hs
  refine Eq.trans hrun ?_
  have hd : decodeOpsBy s.params.arityOf Config.missingParam [i.opcode, 0, 0, 0] i.params = .ok ([i, .nop, .nop, .nop], []) := by
    have h := decodeOpsBy_params [i, .nop, .nop, .nop] (List.forall_mem_cons.2 ⟨hwf, by decide⟩) Config.missingParam []
    rw [show s.params.arityOf = arity from funext har]
    simpa [Instr.params, Instr.opcode] using h
  have hdrain := drain_eq_runCommands [i.opcode, 0, 0, 0] (s := withQueue q s) hqc (fun op _ => (har op).ge)
    (show decodeOpsBy s.params.arityOf _ _ q.paramq = _ by rw [hqp]; exact hd)
  rw [show 4 = [i.opcode, 0, 0, 0].length from rfl, hdrain]
  simp only [List.zip_cons_cons, runCommands, exec_withQueue, andThen_assoc, andThen_next]
  refine andThen_congr fun t ht => ?_
  have hp := exec_params ht
  have hnop : t.params.arityOf 0 = 0 := by rw [hp, har]; rfl
  have hlen : s.params.arityOf i.opcode = i.params.length := by rw [har, length_params hwf]
  simp only [exec_nop, andThen_next, List.zip_nil_right, runCommands, headRemoved_withQueue, withQueue_params, hnop, hlen]
  have e := exec_fifoSide ht
  simp only [fifoSide, FifoSide.mk.injEq] at e
  obtain ⟨-, htc, htp, hto, htf, -, -, -, -, -, -, hti⟩ := e
  refine congrArg Host.Outcome.next (updateStatus_withQueue ?_ ?_ ?_ ?_ ?_)
  · simp [hqc, htc, hcmdq]
  · simp [hqp, htp, hparamq]
  · rw [hqo, hto, howed]
  · by_cases h : i.params.length = 0 <;> simp [hqf, htf, hfill, h]
    omega
  · rw [hqi, hti, hin]

/-- The commands without an effect leave the state as it is (R290). -/
theorem exec_of_hasNoEffect {i : Instr} (h : hasNoEffect i = true) (s : State) : exec i s = .next s := by
  cases i with
  | nop | color | normal | texcoord | polygonAttr | teximageParam | plttBase | difAmb | speEmi | lightVector | lightColor
  | shininess | endVtxs | viewport | vecTest | undef => rfl
  | _ => cases h

/-- Their opcodes stand for commands without an effect whatever the parameter words are. -/
theorem hasNoEffect_commandOf {i : Instr} (h : hasNoEffect i = true) (hwf : i.wf = true) (free : Nat → Word) (P : List Word) :
    hasNoEffect (commandOf i.opcode free P) = true := by
  cases i with
  | undef op =>
    rw [show (Instr.undef op).opcode = op from rfl, commandOf, opcodeRow_of_undefined hwf]
    rfl
  | nop | color | normal | texcoord | polygonAttr | teximageParam | plttBase | difAmb | speEmi | lightVector | lightColor
  | shininess | endVtxs | viewport | vecTest => rfl
  | _ => cases h

/-- Settles O54: what is dispatched is again a command without an effect, so that only the removal, and the draws of missing words,
are left. -/
theorem commandsWithoutEffectLeaveTheState : Obligations.CommandsWithoutEffectLeaveTheState := by
  refine fun i s h => ⟨exec_of_hasNoEffect h s, fun hwf => ⟨s.draws + missingWords i.opcode s, ?_, fun har hlen => ?_⟩⟩
  · rw [dispatchHead, executeHead, exec_of_hasNoEffect (hasNoEffect_commandOf h hwf _ _), andThen_next,
      removeHead_eq_headRemoved]
  · rw [missingWords_eq_zero har hlen, Nat.add_zero]

end Sys2Proof.Laws
end

section
/-! PROOFS. The invariant between two submits (spec/41_fifo.md R148, R150, R151; spec/10_state.md R32, R33, R36 to R38): reset meets it,
every step keeps it, and what it says of the FIFO. -/

namespace Sys2Proof.Laws

open Sys2Proof.Machine Sys2Proof.Claims

/-- What the invariant says besides the queue and its status: the part the commands keep by themselves, whatever is queued. -/
structure CommandInv (s : State) : Prop where
  config : ConfigInv s.params
  store : StoreInv s
  stack : StackInv s
  cur : CurInv s
  frame : FrameInv s
  projDepth : s.stProjDepth = s.projSp
  pvDepth : s.stPvDepth = s.pvSp

/-- The counters of the queue (R150, items 1 and 3), which are right in the middle of a drain too: under the arity table `ar`, what is
owed and queued is what the opcodes ask for, and the fill level counts the units. -/
structure Counted (ar : Byte → Nat) (cmdq : List Byte) (paramq : List Word) (owed fill : Nat) : Prop where
  owed : owed + paramq.length = (cmdq.map ar).sum
  fill : fill = (cmdq.filter fun op => ar op = 0).length + paramq.length

/-- The counters of a state are right. -/
def QueueCounts (s : State) : Prop := Counted s.params.arityOf s.cmdq s.paramq s.owed s.fill

/-- The polygon the assembler resolves has its indices inside the store (R244). -/
theorem resolvePolygon_indices_lt {n : Nat} {p q : Polygon} (h : resolvePolygon n p = some q) : ∀ k ∈ q.indices, k < n := by
  cases p with
  | tri a b c =>
    simp only [resolvePolygon, Option.bind_eq_bind, Option.bind_eq_some_iff, Option.pure_def, Option.some.injEq] at h
    obtain ⟨x, hx, y, hy, z, hz, rfl⟩ := h
    simp [Polygon.indices, storeIndex_lt hx, storeIndex_lt hy, storeIndex_lt hz]
  | quad a b c d =>
    simp only [resolvePolygon, Option.bind_eq_bind, Option.bind_eq_some_iff, Option.pure_def, Option.some.injEq] at h
    obtain ⟨x, hx, y, hy, z, hz, w, hw, rfl⟩ := h
    simp [Polygon.indices, storeIndex_lt hx, storeIndex_lt hy, storeIndex_lt hz, storeIndex_lt hw]

/-- A vertex command keeps the stores within their capacities, and every index inside the store (R36, R37). -/
theorem storeInv_addVtx {s : State} (c : Reg Vec4) (h : StoreInv s) : StoreInv (addVtx { s with cur := c }) := by
  obtain ⟨hvtx, hpoly, hidx⟩ := h
  obtain ⟨-, e⟩ | ⟨hlt, q, hq, e⟩ := addVtx_cases { s with cur := c } <;> rw [e]
  · exact ⟨hvtx, hpoly, hidx⟩
  · have old : ∀ p ∈ s.poly, ∀ k ∈ p.indices, k < s.vtx.length + 1 := fun p hp k hk => Nat.lt_succ_of_lt (hidx p hp k hk)
    obtain rfl | ⟨p, hcap, rfl, hp⟩ := hq
    · exact ⟨by simpa using hlt, hpoly, by simpa using old⟩
    · refine ⟨by simpa using hlt, by simpa using hcap, fun r hr => ?_⟩
      simp only [List.length_append, List.length_singleton]
      obtain hr | hr := List.mem_append.1 hr
      · exact old r hr
      · obtain ⟨_, -, hres⟩ := Option.bind_eq_some_iff.1 hp
        rw [List.mem_singleton.1 hr]
        exact resolvePolygon_indices_lt hres

/-- A vertex command leaves w = 1 in a written accumulator (R33): the absolute and two-axis forms set it, VTX_DIFF keeps it. -/
theorem curInv_vertexCur (i : Instr) {s : State} (h : CurInv s) : (vertexCur i s).written = true → (vertexCur i s).val.w = 1 := by
  cases i with
  | vtx16 | vtx10 | vtxXy | vtxXz | vtxYz => exact fun _ => rfl
  | _ => exact h

/-- A pointer that stays, stays within the depth or wraps names a slot (R32, R128). -/
theorem pointer_lt {s : State} {k : Nat} (hc : ConfigInv s.params) (hs : StackInv s)
    (h : k = s.pvSp ∨ k ≤ s.params.pvStackDepth ∨ ∃ n, k = wrapSlot s.params n) : k < s.params.pvStackSlots := by
  have hdepth := hc.pvDepth
  obtain rfl | h | ⟨n, rfl⟩ := h
  · exact hs.pointer
  · omega
  · exact wrapSlot_lt (by omega) n

/-- Every command keeps its part of the invariant. -/
theorem exec_commandInv {i : Instr} {s t : State} (h : exec i s = .next t) (hs : CommandInv s) : CommandInv t := by
  obtain ⟨hconfig, hstore, hstack, hcur, hframe, hproj, hpv⟩ := hs
  cases exec_wrote h with
  | matrix _ _ _ _ _ _ _ _ _ _ _ _ posSlots vecSlots pointer _ =>
    exact ⟨hconfig, ⟨hstore.1, hstore.2, hstore.3⟩,
      ⟨posSlots.trans hstack.1, vecSlots.trans hstack.2, pointer_lt (s := s) hconfig hstack pointer⟩, hcur, ⟨hframe.1, hframe.2⟩, rfl, rfl⟩
  | vertex _ =>
    have hstore' := storeInv_addVtx (vertexCur i s) hstore
    obtain ⟨_, _, _, _, e⟩ := addVtx_shape s (vertexCur i s)
    rw [e] at hstore' ⊢
    exact ⟨hconfig, hstore', ⟨hstack.1, hstack.2, hstack.3⟩, curInv_vertexCur i hcur, ⟨hframe.1, hframe.2⟩, hproj, hpv⟩
  | posTest _ _ _ _ _ _ affine =>
    exact ⟨hconfig, ⟨hstore.1, hstore.2, hstore.3⟩, ⟨hstack.1, hstack.2, hstack.3⟩, fun _ => affine, ⟨hframe.1, hframe.2⟩, hproj, hpv⟩
  | swapBuffers =>
    obtain ⟨hrows, hcolumns⟩ := sized_renderPass s.params s.vtx s.poly
    exact ⟨hconfig, ⟨Nat.zero_le _, Nat.zero_le _, fun _ h => nomatch h⟩, ⟨hstack.1, hstack.2, hstack.3⟩, hcur,
      ⟨hrows, hcolumns⟩, hproj, hpv⟩
  | beginVtxs | boxTest | nothing =>
    exact ⟨hconfig, ⟨hstore.1, hstore.2, hstore.3⟩, ⟨hstack.1, hstack.2, hstack.3⟩, hcur, ⟨hframe.1, hframe.2⟩, hproj, hpv⟩

/-- That part does not depend on the queue side. -/
theorem commandInv_withQueue {s : State} (q : QueueSide) (h : CommandInv s) : CommandInv (withQueue q s) := by
  obtain ⟨hconfig, hstore, hstack, hcur, hframe, hproj, hpv⟩ := h
  exact ⟨hconfig, ⟨hstore.1, hstore.2, hstore.3⟩, ⟨hstack.1, hstack.2, hstack.3⟩, hcur, ⟨hframe.1, hframe.2⟩, hproj, hpv⟩

/-- It does not depend on the draw counter either. -/
theorem commandInv_draws {s : State} (d : Nat) (h : CommandInv s) : CommandInv { s with draws := d } := by
  obtain ⟨hconfig, hstore, hstack, hcur, hframe, hproj, hpv⟩ := h
  exact ⟨hconfig, ⟨hstore.1, hstore.2, hstore.3⟩, ⟨hstack.1, hstack.2, hstack.3⟩, hcur, ⟨hframe.1, hframe.2⟩, hproj, hpv⟩

/-- Accumulating a word works on the queue side (R142, R143). -/
theorem accumulate_eq_withQueue (w : Word) (s : State) : accumulate w s = withQueue (queueSide (accumulate w s)) s := by
  by_cases h : s.owed = 0
  · rw [accumulate_command h]; rfl
  · rw [accumulate_parameter h]; rfl

theorem submit_commandInv {w : Word} {s t : State} (h : submit w s = .next t) (hs : CommandInv s) : CommandInv t := by
  refine submit_induction CommandInv (fun w s hs => ?_) (fun _ _ _ h hs => exec_commandInv h hs)
    (fun d _ hs => commandInv_draws d hs) (fun n s hs => commandInv_withQueue (queueSide (removeHead n s)) hs)
    (fun s hs => commandInv_withQueue (queueSide (updateStatus s)) hs) h hs
  rw [accumulate_eq_withQueue]
  exact commandInv_withQueue _ hs

/-- A command word keeps the counters, when nothing is owed (R142). -/
theorem counted_command {ar : Byte → Nat} {cmdq : List Byte} {paramq : List Word} {fill : Nat} (ops : List Byte)
    (h : Counted ar cmdq paramq 0 fill) :
    Counted ar (cmdq ++ ops) paramq (ops.map ar).sum (fill + ops.countP fun op => ar op = 0) := by
  obtain ⟨howed, hfill⟩ := h
  refine ⟨?_, ?_⟩
  · rw [List.map_append, List.sum_append]; omega
  · rw [List.filter_append, List.length_append, hfill, List.countP_eq_length_filter]; omega

/-- A parameter word keeps the counters, when something is owed (R143). -/
theorem counted_parameter {ar : Byte → Nat} {cmdq : List Byte} {paramq : List Word} {owed fill : Nat} (w : Word) (h0 : owed ≠ 0)
    (h : Counted ar cmdq paramq owed fill) : Counted ar cmdq (paramq ++ [w]) (owed - 1) (fill + 1) := by
  obtain ⟨howed, hfill⟩ := h
  refine ⟨?_, ?_⟩
  · rw [List.length_append, List.length_singleton]; omega
  · rw [List.length_append, List.length_singleton]; omega

theorem accumulate_counts {s : State} (w : Word) (h : QueueCounts s) : QueueCounts (accumulate w s) := by
  by_cases h0 : s.owed = 0
  · rw [QueueCounts, h0] at h
    rw [accumulate_command h0]
    exact counted_command (unpack w) h
  · rw [accumulate_parameter h0]
    exact counted_parameter w h0 h

/-- With nothing owed, the removal of the head keeps the counters (R147): its words have all arrived. -/
theorem counted_tail {ar : Byte → Nat} {op : Byte} {ops : List Byte} {paramq : List Word} {fill : Nat}
    (h : Counted ar (op :: ops) paramq 0 fill) : Counted ar ops (paramq.drop (ar op)) 0 (fill - max 1 (ar op)) := by
  obtain ⟨howed, hfill⟩ := h
  rw [List.map_cons, List.sum_cons] at howed
  refine ⟨by rw [List.length_drop]; omega, ?_⟩
  rw [List.length_drop]
  by_cases hz : ar op = 0 <;> simp [hz] at hfill ⊢ <;> omega

/-- A drain that completes has emptied the queues, and the fill level is 0 again (R146). -/
theorem drain_empties (k : Nat) : ∀ {s t : State}, s.cmdq.length = k → s.owed = 0 → QueueCounts s → drain k s = .next t →
    t.cmdq = [] ∧ t.paramq = [] ∧ t.owed = 0 ∧ t.fill = 0 := by
  induction k with
  | zero =>
    intro s t hk h0 hs h
    cases h
    obtain ⟨howed, hfill⟩ := hs
    have hq := List.length_eq_zero_iff.1 hk
    rw [hq, h0, Nat.zero_add] at howed
    have hp : s.paramq = [] := List.length_eq_zero_iff.1 howed
    rw [hq, hp] at hfill
    exact ⟨hq, hp, h0, hfill⟩
  | succ k ih =>
    intro s t hk h0 hs h
    obtain ⟨op, ops, hq⟩ := List.exists_cons_of_length_eq_add_one hk
    rw [drain_cons k hq, andThen_eq_next] at h
    obtain ⟨u, hu, ht⟩ := h
    rw [dispatchHead, andThen_eq_next] at hu
    obtain ⟨v, hv, hu⟩ := hu
    cases hu
    have e := exec_fifoSide hv
    simp only [fifoSide, FifoSide.mk.injEq] at e
    obtain ⟨hvparams, hvcmdq, hvparamq, hvowed, hvfill, -⟩ := e
    refine ih (s := removeHead (s.params.arityOf op) v) ?_ (hvowed.trans h0) ?_ ht
    · rw [removeHead_cmdq, hvcmdq, hq, List.tail_cons]
      simpa [hq] using hk
    · rw [QueueCounts, hq, h0] at hs
      rw [QueueCounts, removeHead_params, removeHead_cmdq, removeHead_paramq, removeHead_owed, removeHead_fill, hvparams,
        hvcmdq, hvparamq, hvowed, hvfill, hq, h0, List.tail_cons]
      exact counted_tail hs

/-- The published queue status is that of the fill level (R148). -/
theorem statusInv_updateStatus {s : State} (hproj : s.stProjDepth = s.projSp) (hpv : s.stPvDepth = s.pvSp) :
    StatusInv (updateStatus s) :=
  ⟨rfl, isEmptyLevel_iff s.fill, isHalfLevel_iff _ s.fill, hproj, hpv⟩

/-- A submit keeps the queue whole (R150, item 2): either four opcodes wait for their parameters, or the drain has emptied it. -/
theorem submit_queueInv {w : Word} {s t : State} (h : submit w s = .next t) (hs : QueueInv s) : QueueInv t := by
  have hcounts := accumulate_counts w ⟨hs.owed, hs.fill⟩
  by_cases h0 : (accumulate w s).owed = 0
  · rw [submit_of_ready h0, andThen_eq_next] at h
    obtain ⟨u, hu, ht⟩ := h
    cases ht
    obtain ⟨hc, hp, ho, hf⟩ := drain_empties _ rfl h0 hcounts hu
    exact ⟨by simp [hc, hp, ho], .inl (by simp [hc, ho]), by simp [hc, hp, hf]⟩
  · rw [submit_of_owed h0] at h
    cases h
    refine ⟨hcounts.owed, .inr ⟨?_, Nat.pos_of_ne_zero h0⟩, hcounts.fill⟩
    rw [updateStatus_cmdq]
    obtain ⟨hc, ho⟩ | ⟨hc, ho⟩ := hs.whole
    · rw [accumulate_command ho, List.length_append, hc]; rfl
    · rw [accumulate_parameter ho.ne']; exact hc

/-- The two parts and the status make the invariant, and are of it. -/
theorem inv_iff (s : State) : Inv s ↔ CommandInv s ∧ QueueInv s ∧ StatusInv s :=
  ⟨fun ⟨hc, hq, hst, hs, hk, hcur, hf⟩ => ⟨⟨hc, hs, hk, hcur, hf, hst.projDepth, hst.pvDepth⟩, hq, hst⟩,
    fun ⟨h, hq, hst⟩ => ⟨h.config, hq, hst, h.store, h.stack, h.cur, h.frame⟩⟩

/-- What the environment has still to do, and the enables, are no part of the invariant. -/
theorem inv_withInput {s : State} (l : List Event) (e h : Bool) (hs : Inv s) :
    Inv { s with input := l, enEmpty := e, enHalf := h } where
  config := hs.config
  queue := ⟨hs.queue.1, hs.queue.2, hs.queue.3⟩
  status := ⟨hs.status.1, hs.status.2, hs.status.3, hs.status.4, hs.status.5⟩
  store := ⟨hs.store.1, hs.store.2, hs.store.3⟩
  stack := ⟨hs.stack.1, hs.stack.2, hs.stack.3⟩
  cur := hs.cur
  frame := ⟨hs.frame.1, hs.frame.2⟩

theorem submit_inv {w : Word} {s t : State} (h : submit w s = .next t) (hs : Inv s) : Inv t := by
  obtain ⟨hcmd, hqueue, -⟩ := (inv_iff s).1 hs
  have ht := submit_commandInv h hcmd
  refine (inv_iff t).2 ⟨ht, submit_queueInv h hqueue, ?_⟩
  obtain ⟨u, -, rfl⟩ := submit_eq_next h
  exact statusInv_updateStatus ht.projDepth ht.pvDepth

/-- Settles O19: a submit keeps the part of the commands, the queue and the status; the other events write an enable. -/
theorem stepKeepsTheInvariant : Obligations.StepKeepsTheInvariant := by
  intro s t hs h
  obtain ⟨-, e⟩ | ⟨w, rest, -, e⟩ | ⟨b, rest, -, e⟩ | ⟨b, rest, -, e⟩ := step_cases s <;> rw [e] at h
  · cases h; exact hs
  · exact submit_inv h (inv_withInput rest s.enEmpty s.enHalf hs)
  · cases h; exact inv_withInput rest b s.enHalf hs
  · cases h; exact inv_withInput rest s.enEmpty b hs

theorem configInv_default : ConfigInv Params.default where
  cmdCap := by decide
  paramCap op := (default_capacities op).2
  pvDepth := by decide
  pvSlots := by decide
  maxVtx := by decide
  maxPoly := by decide
  pixels := by decide

/-- Settles O17: everything is empty or cleared at reset, and an empty queue is below a threshold that is not 0. -/
theorem resetMeetsTheInvariant : Obligations.ResetMeetsTheInvariant := by
  have main : ∀ p : Params, ConfigInv p → 0 < p.halfThreshold → Inv (.resetWith p) := fun p hp hh =>
    { config := hp
      queue := ⟨rfl, .inl ⟨rfl, rfl⟩, rfl⟩
      status := ⟨rfl, ⟨fun _ => rfl, fun _ => rfl⟩, ⟨fun _ => hh, fun _ => rfl⟩, rfl, rfl⟩
      store := ⟨Nat.zero_le _, Nat.zero_le _, fun _ h => nomatch h⟩
      stack := ⟨List.length_replicate, List.length_replicate, Nat.zero_lt_of_lt hp.pvDepth⟩
      cur := fun h => nomatch h
      frame := ⟨(sized_clear p).1, (sized_clear p).2⟩ }
  exact ⟨main, main .default configInv_default (by decide)⟩

/-- Settles O18: the reset state read field by field; both stacks are copies of one Unwritten slot. -/
theorem resetLeavesTheSpecsValues : Obligations.ResetLeavesTheSpecsValues := by
  refine ⟨rfl, fun p => ?_⟩
  simp [State.resetWith, Reg.unset]

/-- The arities of a list of opcodes and the number of its zero-arity ones, bounded by a bound on the single arity. -/
theorem arities_add_zeros_le {ar : Byte → Nat} {m : Nat} (hm : 1 ≤ m) (h : ∀ op, ar op ≤ m) (ops : List Byte) :
    (ops.map ar).sum + (ops.filter fun op => ar op = 0).length ≤ m * ops.length := by
  induction ops with
  | nil => simp
  | cons op ops ih =>
    have hop := h op
    by_cases hz : ar op = 0 <;> simp [hz, Nat.mul_add] <;> omega

/-- Four opcodes' arities are within `PARAM_CAP` (R151). -/
theorem arities_le_paramCap {p : Params} (h : ∀ op, 4 * p.arityOf op ≤ p.paramCap) (ops : List Byte) :
    4 * (ops.map p.arityOf).sum ≤ ops.length * p.paramCap := by
  induction ops with
  | nil => simp
  | cons op ops ih =>
    have hop := h op
    simp only [List.map_cons, List.sum_cons, List.length_cons, Nat.add_mul]
    omega

/-- Settles O20: with nothing owed the queue is empty, and otherwise it holds four opcodes, whose arities bound the rest. -/
theorem invariantBoundsTheFifo : Obligations.InvariantBoundsTheFifo := by
  intro s hs
  obtain ⟨howed, hwhole, hfill⟩ := hs.queue
  have hstatus := hs.status
  have hcap := arities_le_paramCap hs.config.paramCap s.cmdq
  have hcmdCap := hs.config.cmdCap
  have hempty : s.owed = 0 → s.cmdq = [] ∧ s.paramq = [] ∧ s.fill = 0 := by
    intro h0
    have hq : s.cmdq = [] := List.length_eq_zero_iff.1 (by omega)
    rw [hq, h0, Nat.zero_add] at howed
    have hp : s.paramq = [] := List.length_eq_zero_iff.1 howed
    rw [hq, hp] at hfill
    exact ⟨hq, hp, hfill⟩
  have hlen : s.cmdq.length ≤ 4 := by omega
  refine ⟨fun h0 => ?_, hlen, by omega, ?_, fun har => ?_, fun hslots => ?_, ?_⟩
  · obtain ⟨hq, hp, hf⟩ := hempty h0
    exact ⟨hq, hp, hf, hstatus.empty.2 hf, fun ht => hstatus.half.2 (by omega)⟩
  · have : s.cmdq.length * s.params.paramCap ≤ 4 * s.params.paramCap := Nat.mul_le_mul_right _ hlen
    omega
  · have hbound := arities_add_zeros_le (m := 32) (ar := s.params.arityOf) (by decide) (fun op => by rw [har]; exact arity_le op)
      s.cmdq
    have hp : s.paramq.length ≤ 127 ∧ s.fill ≤ 127 := by omega
    exact ⟨hp.1, hp.2, fun ht => hstatus.half.2 (by omega)⟩
  · have hpointer := hs.stack.pointer
    have hdepth := hstatus.pvDepth
    omega
  · rw [← Bool.not_eq_true, hstatus.empty]
    constructor
    · intro hf
      refine ⟨fun h0 => hf (hempty h0).2.2, ?_⟩
      by_contra hnone
      push Not at hnone
      obtain ⟨hops, hp⟩ := hnone
      exact hf (by rw [hfill, List.filter_eq_nil_iff.2 (by simpa using hops), hp]; rfl)
    · rintro ⟨-, ⟨op, hop, hz⟩ | hp⟩ hf
      · have : 0 < (s.cmdq.filter fun op => s.params.arityOf op = 0).length :=
          List.length_pos_of_mem (List.mem_filter.2 ⟨hop, by simpa using hz⟩)
        omega
      · have := List.length_pos_iff.2 hp
        omega

end Sys2Proof.Laws
end

section
/-! PROOFS. Fixed point (spec/40_math.md R121 to R123): the formats, the conversion back, and exact arithmetic in any ordered field. -/

namespace Sys2Proof.Laws

open Sys2Proof.Machine Sys2Proof.Claims

/-- A scaled integer, for any `NUM` (R121, R123). -/
theorem scaledInt_eq_scaled (p : Params) (i : Int) : scaledInt p i = scaled p i := by
  unfold scaledInt Params.fracScale scaled
  cases p.num <;> simp [NumDomain.div, NumDomain.ofInt]

theorem fix12_eq_scaled (p : Params) (w : Word) : fix12 p w = scaled p w.toInt := by
  rw [fix12, scaledInt_eq_scaled, sext_eq_toInt]

theorem fx16_eq_scaled (p : Params) (f : BitVec 16) : fx16 p f = scaled p f.toInt := by
  rw [fx16, scaledInt_eq_scaled, sext_eq_toInt]

theorem fx10_eq_scaled (p : Params) (f : BitVec 10) : fx10 p f = scaled p (f.toInt * 64) := by
  rw [fx10, scaledInt_eq_scaled, sext_eq_toInt]

theorem dx10_eq_scaled (p : Params) (f : BitVec 10) : dx10 p f = scaled p f.toInt := by
  rw [dx10, scaledInt_eq_scaled, sext_eq_toInt]

theorem scaled_exact {p : Params} (h : p.num = .exact) (i : Int) : scaled p i = i / 2 ^ p.fracBits := by
  rw [← scaledInt_eq_scaled, scaledInt_exact h]

theorem scaled_default (i : Int) : scaled .default i = i / 4096 := by
  rw [scaled_exact default_num]; norm_num

/-- A signed field of `n + 1` bits over `d` lies between its two end values over `d`. -/
theorem toInt_div_bounds {n : Nat} (v : BitVec (n + 1)) {d : ℚ} (hd : 0 < d) :
    -(2 : ℚ) ^ n / d ≤ v.toInt / d ∧ v.toInt / d ≤ (2 ^ n - 1) / d := by
  have hlo : -(2 : Int) ^ n ≤ v.toInt := by simpa using BitVec.le_toInt v
  have hhi : v.toInt ≤ (2 : Int) ^ n - 1 := by have := BitVec.toInt_lt (x := v); simp at this; omega
  refine ⟨div_le_div_of_nonneg_right ?_ hd.le, div_le_div_of_nonneg_right ?_ hd.le⟩
  · exact_mod_cast hlo
  · exact_mod_cast hhi

/-- Settles O27: each format is a scaled signed integer, and its ends are those of the field. -/
theorem fixedPointFormatsScaleAndRange : Obligations.FixedPointFormatsScaleAndRange := by
  refine ⟨fun p w f g => ⟨fix12_eq_scaled p w, fx16_eq_scaled p f, fx10_eq_scaled p g, dx10_eq_scaled p g⟩, ?_⟩
  have h12 (w : Word) : fix12 .default w = (w.toInt : ℚ) / 4096 := by rw [fix12_eq_scaled, scaled_default]
  have h16 (f : BitVec 16) : fx16 .default f = (f.toInt : ℚ) / 4096 := by rw [fx16_eq_scaled, scaled_default]
  have h10 (f : BitVec 10) : fx10 .default f = (f.toInt : ℚ) / 64 := by
    rw [fx10_eq_scaled, scaled_default]; push_cast; ring
  have hd (f : BitVec 10) : dx10 .default f = (f.toInt : ℚ) / 4096 := by rw [dx10_eq_scaled, scaled_default]
  have p4096 : (0 : ℚ) < 4096 := by norm_num
  have p64 : (0 : ℚ) < 64 := by norm_num
  refine ⟨fun w => ⟨h12 w, ?_⟩, fun f => ⟨h16 f, ?_⟩, fun f => ⟨h10 f, ?_⟩, fun f => ⟨hd f, ?_⟩, ?_, ?_, ?_⟩
  · rw [h12]; have := toInt_div_bounds w p4096; norm_num at this ⊢; exact this
  · rw [h16]; have := toInt_div_bounds f p4096; norm_num at this ⊢; exact this
  · rw [h10]; have := toInt_div_bounds f p64; norm_num at this ⊢; exact this
  · rw [hd]; have := toInt_div_bounds f p4096; norm_num at this ⊢; exact this
  · simp only [h16]
    rw [show (0x1000 : BitVec 16).toInt = 4096 from rfl, show (0xF000 : BitVec 16).toInt = -4096 from rfl,
      show (0x8000 : BitVec 16).toInt = -32768 from rfl, show (0x7FFF : BitVec 16).toInt = 32767 from rfl]
    norm_num
  · simp only [h10]
    rw [show (0x040 : BitVec 10).toInt = 64 from rfl, show (0x3C0 : BitVec 10).toInt = -64 from rfl,
      show (0x200 : BitVec 10).toInt = -512 from rfl, show (0x1FF : BitVec 10).toInt = 511 from rfl]
    norm_num
  · simp only [hd]
    rw [show (0x001 : BitVec 10).toInt = 1 from rfl, show (0x3FF : BitVec 10).toInt = -1 from rfl,
      show (0x200 : BitVec 10).toInt = -512 from rfl]
    norm_num

/-- In range the default conversion is the truncation of the scaled value, whatever the draw (R122). -/
theorem toFix12_of_inRange {p : Params} {t : Int} (d : Nat) {r : NUM} (h : truncNum (p.num.mul r p.fracScale) = t)
    (hlo : (-2 ^ 31 : Int) ≤ t) (hhi : t ≤ 2 ^ 31 - 1) : toFix12 p d r = BitVec.ofInt 32 t := by
  simp only [toFix12, h]
  rw [if_pos ⟨hlo, hhi⟩]

/-- An integer is its own truncation. -/
theorem truncNum_intCast (i : Int) : truncNum (i : ℚ) = i := by
  rw [truncNum_eq]; split <;> simp

/-- Settles O25: the value times the scale is the word's integer again, which is in range. -/
theorem fixedPointReadsBack : Obligations.FixedPointReadsBack := by
  intro p d w h
  have hval : p.num.mul (fix12 p w) p.fracScale = w.toInt := by
    rw [fix12_eq_scaled, scaled_exact h, fracScale_exact h, h, exact_mul, div_mul_cancel₀ _ (by positivity)]
  have hlo := BitVec.le_toInt w
  have hhi := BitVec.toInt_lt (x := w)
  rw [toFix12_of_inRange d (by rw [hval, truncNum_intCast]) (by simpa using hlo) (by simp at hhi; omega), BitVec.ofInt_toInt]

/-- A positive scale does not change the side to which `trunc` rounds. -/
theorem truncNum_mul_pos (r : NUM) {c : NUM} (hc : 0 < c) : truncNum (r * c) = if 0 ≤ r then ⌊r * c⌋ else ⌈r * c⌉ := by
  rw [truncNum_eq]
  simp only [mul_nonneg_iff_of_pos_right hc]

/-- The scaled value in exact arithmetic, truncated (R122). -/
theorem truncNum_scaled_exact {p : Params} (h : p.num = .exact) (r : NUM) : truncNum (p.num.mul r p.fracScale) =
    if 0 ≤ r then ⌊r * 2 ^ p.fracBits⌋ else ⌈r * 2 ^ p.fracBits⌉ := by
  rw [fracScale_exact h, h, exact_mul, truncNum_mul_pos r (by positivity)]

/-- The word of the configured conversion is one the rule allows (R122). -/
theorem fix12Of_convert (p : Params) (d : Nat) (r : NUM) : Fix12Of p r (convert p d r) := by
  unfold Fix12Of
  cases hc : p.conversion with
  | truncate => exact fun hlo hhi => (convert_truncate hc d r).trans (toFix12_of_inRange d (truncNum_eq _) hlo hhi)
  | other => exact convert_other hc d r

/-- Settles O26: by the truncation of the scaled value. -/
theorem fixedPointTruncates : Obligations.FixedPointTruncates :=
  ⟨⟨rfl, rfl, rfl⟩, fun _ d r h hlo hhi => toFix12_of_inRange d (truncNum_scaled_exact h r) hlo hhi, fix12Of_convert⟩

/-- The exact screen position (R265). -/
theorem toScreen_exact {p : Params} (h : p.num = .exact) (v : Vec4) :
    toScreen p v = ⟨⌊(v.x / v.w + 1) * p.fbW / 2⌋, ⌊(1 - v.y / v.w) * p.fbH / 2⌋⟩ := by
  simp [toScreen, h, floorNum_eq]

/-- Settles O60: the rationals embed in `K` with their sums, products, quotients, order and floors. -/
theorem exactResultsAreThoseOfEveryOrderedField : Obligations.ExactResultsAreThoseOfEveryOrderedField := by
  intro K _ _ _ _
  refine ⟨fun A B r c => ?_, fun A v r => ?_, fun p w h => ?_, fun a b => ?_, fun p v h _ => ?_, fun p d r h => ?_⟩
  · rw [matmul_exact_get_eq_sum]; push_cast; rfl
  · rw [xform_exact_get_eq_sum]; push_cast; rfl
  · rw [fix12_eq_scaled, scaled_exact h]; push_cast; rfl
  · rw [exact_add]; push_cast; rfl
  · rw [toScreen_exact h, ← Rat.floor_cast (α := K), ← Rat.floor_cast (α := K)]
    push_cast
    rfl
  · have hfloor : ⌊(r : K) * 2 ^ p.fracBits⌋ = ⌊r * 2 ^ p.fracBits⌋ := by
      rw [← Rat.floor_cast (α := K)]; push_cast; rfl
    have hceil : ⌈(r : K) * 2 ^ p.fracBits⌉ = ⌈r * 2 ^ p.fracBits⌉ := by
      rw [← Rat.ceil_cast (α := K)]; push_cast; rfl
    intro t hlo hhi
    refine toFix12_of_inRange d ?_ hlo hhi
    rw [truncNum_scaled_exact h]
    simp only [t, hfloor, hceil, Rat.cast_nonneg]

end Sys2Proof.Laws
end

section
/-! PROOFS. The vertex commands and the assembler (spec/43_vertex.md R211 to R221, spec/44_polygon.md R241 to R248). -/

namespace Sys2Proof.Laws

open Sys2Proof.Machine Sys2Proof.Claims

/-- The Polygon Store after the assembler has run with `c` vertices counted and `n` stored (R243 to R245). -/
def nextPoly (cap : Nat) (prim : PrimitiveMode) (c n : Nat) (poly : List Polygon) : List Polygon :=
  match (polygonOffsets prim c).bind (resolvePolygon n) with
  | some p => if poly.length < cap then poly ++ [p] else poly
  | none => poly

theorem assemble_eq (s : State) :
    assemble s = { s with poly := nextPoly s.params.maxPoly s.prim.val s.cnt s.vtx.length s.poly } := by
  unfold assemble nextPoly
  cases (polygonOffsets s.prim.val s.cnt).bind (resolvePolygon s.vtx.length) with
  | none => rfl
  | some p => simp only [emitPolygon]; split <;> rfl

/-- With the Vertex Store full `add_vtx` does nothing (R219). -/
theorem addVtx_of_full {s : State} (h : s.params.maxVtx ≤ s.vtx.length) : addVtx s = s := if_pos h

/-- With room it appends, counts and assembles (R211). -/
theorem addVtx_of_room {s : State} (h : s.vtx.length < s.params.maxVtx) : addVtx s = { s with
    vtx := s.vtx ++ [xform s.params.num s.clip.val s.cur.val]
    cnt := s.cnt + 1
    poly := nextPoly s.params.maxPoly s.prim.val (s.cnt + 1) (s.vtx.length + 1) s.poly
    storeWritten := storeMark s } := by
  rw [addVtx, if_neg (Nat.not_le.2 h), assemble_eq]
  simp only [List.length_append, List.length_singleton]

/-- R243's table gives offsets back from the newest vertex, of index `n - 1`. -/
theorem tableIndices_eq (prim : PrimitiveMode) (c n : Nat) : tableIndices prim c n =
    (polygonOffsets prim c).map fun p => p.indices.map fun k : Nat => (n : Int) - 1 - k := by
  cases prim with
  | triangles =>
    by_cases h : c % 3 = 0
    · simp [tableIndices, polygonOffsets, Polygon.indices, h, show (c : Int) % 3 = 0 by omega]; omega
    · simp [tableIndices, polygonOffsets, h]; omega
  | quads =>
    by_cases h : c % 4 = 0
    · simp [tableIndices, polygonOffsets, Polygon.indices, h, show (c : Int) % 4 = 0 by omega]; omega
    · simp [tableIndices, polygonOffsets, h]; omega
  | triangleStrip =>
    by_cases h : 3 ≤ c
    · obtain h2 | h2 := Nat.mod_two_eq_zero_or_one c
      · simp [tableIndices, polygonOffsets, Polygon.indices, h, h2, show (c : Int) % 2 = 0 by omega]; omega
      · simp [tableIndices, polygonOffsets, Polygon.indices, h, h2, show (c : Int) % 2 = 1 by omega]; omega
    · simp [tableIndices, polygonOffsets, h]
  | quadStrip =>
    by_cases h : 4 ≤ c ∧ c % 2 = 0
    · simp [tableIndices, polygonOffsets, Polygon.indices, h, show (c : Int) % 2 = 0 by omega]; omega
    · simp [tableIndices, polygonOffsets, h]
      omega

/-- A polygon resolves only when all its offsets reach into the store (R244). -/
theorem offsets_lt_of_resolvePolygon {n : Nat} {p q : Polygon} (h : resolvePolygon n p = some q) : ∀ k ∈ p.indices, k < n := by
  have lt {k i : Nat} (hk : storeIndex n k = some i) : k < n := (storeIndex_eq_some.1 hk).1
  cases p with
  | tri a b c =>
    simp only [resolvePolygon, Option.bind_eq_bind, Option.bind_eq_some_iff] at h
    obtain ⟨x, hx, y, hy, z, hz, -⟩ := h
    simp [Polygon.indices, lt hx, lt hy, lt hz]
  | quad a b c d =>
    simp only [resolvePolygon, Option.bind_eq_bind, Option.bind_eq_some_iff] at h
    obtain ⟨x, hx, y, hy, z, hz, w, hw, -⟩ := h
    simp [Polygon.indices, lt hx, lt hy, lt hz, lt hw]

/-- When they do, it resolves to the indices they reach (R243). -/
theorem resolvePolygon_of_lt {n : Nat} {p : Polygon} (h : ∀ k ∈ p.indices, k < n) : ∃ q, resolvePolygon n p = some q ∧
    q.indices.map (fun k : Nat => (k : Int)) = p.indices.map fun k : Nat => (n : Int) - 1 - k := by
  have index (k : Nat) (h : k < n) : storeIndex n k = some (n - 1 - k) := if_pos h
  cases p with
  | tri a b c =>
    simp only [Polygon.indices, List.forall_mem_cons] at h
    obtain ⟨ha, hb, hc, -⟩ := h
    refine ⟨.tri (n - 1 - a) (n - 1 - b) (n - 1 - c), by simp [resolvePolygon, index, ha, hb, hc], ?_⟩
    simp [Polygon.indices]; omega
  | quad a b c d =>
    simp only [Polygon.indices, List.forall_mem_cons] at h
    obtain ⟨ha, hb, hc, hd, -⟩ := h
    refine ⟨.quad (n - 1 - a) (n - 1 - b) (n - 1 - c) (n - 1 - d), by simp [resolvePolygon, index, ha, hb, hc, hd], ?_⟩
    simp [Polygon.indices]; omega

/-- The assembler follows the table of R243, with R244 and R245. -/
theorem assembled_nextPoly (cap : Nat) (prim : PrimitiveMode) (c n : Nat) (poly : List Polygon) :
    Assembled cap (tableIndices prim c n) poly (nextPoly cap prim c n poly) := by
  rw [tableIndices_eq, nextPoly]
  cases polygonOffsets prim c with
  | none => rfl
  | some p =>
    rw [Option.map_some, Option.bind_some, Assembled]
    have hiff : (∀ k ∈ p.indices.map fun k : Nat => (n : Int) - 1 - k, 0 ≤ k) ↔ ∀ k ∈ p.indices, k < n := by
      rw [List.forall_mem_map]
      exact forall₂_congr fun k _ => by omega
    by_cases hall : ∀ k ∈ p.indices, k < n
    · obtain ⟨q, hq, hidx⟩ := resolvePolygon_of_lt hall
      simp only [hq]
      by_cases hcap : poly.length < cap
      · rw [if_pos ⟨hiff.2 hall, hcap⟩, if_pos hcap]
        exact ⟨q, by simpa [List.map_eq_flatMap] using hidx, rfl⟩
      · rw [if_neg fun h => hcap h.2, if_neg hcap]
    · have hq : resolvePolygon n p = none :=
        Option.eq_none_iff_forall_ne_some.2 fun q hq => hall (offsets_lt_of_resolvePolygon hq)
      simp only [hq]
      rw [if_neg fun h => hall (hiff.1 h.1)]
      trivial

/-- A new accumulator and then `add_vtx` is the vertex step of R211. -/
theorem vertexStep_addVtx (s : State) (v : Vec4) (c : Bool) : VertexStep s v c (addVtx { s with cur := ⟨v, c⟩ }) := by
  unfold VertexStep
  by_cases h : s.params.maxVtx ≤ s.vtx.length
  · rw [if_pos h, addVtx_of_full (s := { s with cur := ⟨v, c⟩ }) h]
  · rw [if_neg h, addVtx_of_room (s := { s with cur := ⟨v, c⟩ }) (Nat.not_le.1 h)]
    exact ⟨_, rfl, assembled_nextPoly ..⟩

/-- A vertex command that runs is the vertex step of its new accumulator. -/
theorem exec_vertexStep {i : Instr} {s : State} {v : Vec4} {c : Bool} (hv : isVertexCommand i = true) (hr : Runs i s)
    (hcur : vertexCur i s = ⟨v, c⟩) : ∃ t, exec i s = .next t ∧ VertexStep s v c t := by
  refine ⟨_, exec_eq_effect hr, ?_⟩
  rw [effect_vertex hv, hcur]
  exact vertexStep_addVtx s v c

/-- Settles O41: both forms write all of the accumulator from their fields. -/
theorem absoluteVerticesAreAppended : Obligations.AbsoluteVerticesAreAppended := by
  refine fun s => ⟨fun x y z hr => exec_vertexStep rfl hr ?_, fun x y z hr => exec_vertexStep rfl hr ?_⟩
  · simp only [vertexCur, fx16_eq_scaled, Reg.of]
  · simp only [vertexCur, fx10_eq_scaled, Reg.of]

/-- Settles O42: each form takes the third coordinate and the mark from the accumulator. -/
theorem twoAxisVerticesKeepTheThird : Obligations.TwoAxisVerticesKeepTheThird := by
  refine fun a b s => ⟨fun hr => exec_vertexStep rfl hr ?_, fun hr => exec_vertexStep rfl hr ?_,
    fun hr => exec_vertexStep rfl hr ?_⟩ <;>
  simp only [vertexCur, fx16_eq_scaled, Reg.map]

/-- Settles O43: the delta is a scaled signed integer, and the sum is that of the configured `NUM`. -/
theorem diffVertexAddsExactDeltas : Obligations.DiffVertexAddsExactDeltas := by
  intro dx dy dz s moved hr
  have hmoved (a : NUM) (d : BitVec 10) : s.params.num.add a (dx10 s.params d) = moved a d := by
    simp only [moved, dx10_eq_scaled]
    cases h : s.params.num with
    | exact => rw [scaled_exact h]; rfl
    | other => rfl
  refine exec_vertexStep rfl hr ?_
  simp only [vertexCur, hmoved, Reg.map]

end Sys2Proof.Laws
end

section
/-! PROOFS. `update_clip` in BEGIN_VTXS and POS_TEST (spec/42_matrix.md R190, spec/43_vertex.md R218, spec/44_polygon.md R241), and any
number of vertices after a BEGIN_VTXS (R243, R247, R248). -/

namespace Sys2Proof.Laws

open Sys2Proof.Machine Sys2Proof.Claims

/-- A state with the three results of `update_clip` in it has the clip matrix and the snapshots recomputed (R190). -/
theorem clipUpdated_of_eq {s t : State} (hclip : t.clip = (updateClip s).clip)
    (hpos : t.posmtxResult = (updateClip s).posmtxResult) (hvec : t.vecmtxResult = (updateClip s).vecmtxResult) :
    ClipUpdated s t := by
  unfold ClipUpdated
  rw [hclip, hpos, hvec]
  refine ⟨rfl, fun r c => ?_, rfl, fun r c => ?_, rfl⟩
  · simp only [updateClip_posmtxResult, reg_map_val, snapshot_entry]
    exact fix12Of_convert ..
  · simp only [updateClip_vecmtxResult, reg_map_val, snapshot_entry]
    exact fix12Of_convert ..

/-- Settles O44: `update_clip` first, then the accumulator and the image of the transformed position. -/
theorem posTestWritesTheTransformedPosition : Obligations.PosTestWritesTheTransformedPosition := by
  intro x y z s v hr
  refine ⟨_, exec_eq_effect hr, clipUpdated_of_eq rfl rfl rfl, ?_, fun k => ?_, rfl, rfl⟩
  · simp only [effect, fx16_eq_scaled]; rfl
  · simp only [effect, fx16_eq_scaled, reg_map_val, Fin.getElem_fin, fixVertex_getElem]
    exact fix12Of_convert ..

/-- Settles O45: the field selects the mode by its four values, and the rest is `update_clip`. -/
theorem beginVtxsResetsTheCounterAndTheClip : Obligations.BeginVtxsResetsTheCounterAndTheClip := by
  intro k s hr
  refine ⟨_, exec_eq_effect hr, clipUpdated_of_eq rfl rfl rfl, ?_, ?_, ?_, ?_, rfl⟩ <;> rintro rfl <;> rfl

/-- The snapshot of a register with the matrix decoded from 16 words reads those words back (R42, R122). -/
theorem map_snapshot_full44 {p : Params} (hc : p.conversion = .truncate) (hn : p.num = .exact) (d : Nat) (a : Vector Word 16)
    (m : Bool) : Reg.map (snapshot p d) ⟨full44 (a.map (fix12 p)), m⟩ = ⟨a, m⟩ := by
  refine congrArg (fun v : Vector Word 16 => Reg.mk v m) (Vector.ext fun k hk => ?_)
  have hidx : 4 * (k / 4) + k % 4 = k := Nat.div_add_mod k 4
  rw [snapshot_getElem _ _ _ _ hk, convert_truncate hc, full44_get]
  simp only [Vector.getElem_map, hidx]
  exact fixedPointReadsBack p _ _ hn

/-- BEGIN_VTXS runs where MTX_LOAD_4x4 has run and left a position of the load's mark, when `proj` is written or the treatment is
`run`. -/
theorem runs_beginVtxs_after_load {a : Vector Word 16} {k : BitVec 2} {s t : State} (hr : Runs (.mtxLoad4x4 a) s)
    (hproj : s.params.unwrittenUse = .run ∨ s.proj.written = true) (hp : t.params = s.params) (htproj : t.proj = s.proj)
    (htpos : t.pos.written = s.mode.written) : Runs (.beginVtxs k) t := by
  cases hu : s.params.unwrittenUse with
  | run => exact .inr ⟨by rw [hp, hu], by simp⟩
  | refuse =>
    have hmode : s.mode.written = true := hr.resolve_right (by simp [hu])
    have hwritten : s.proj.written = true := hproj.resolve_left (by simp [hu])
    exact .inl (by simp [withinBoot, clipOperandsWritten, htproj, htpos, hmode, hwritten])

/-- Settles O46: the load puts the decoded matrix in its targets, and their snapshots read back. -/
theorem loadedMatrixReadsBackInTheSnapshot : Obligations.LoadedMatrixReadsBackInTheSnapshot := by
  intro a k s hc hn hr hproj
  let M := full44 (a.map (fix12 s.params))
  have hload := exec_eq_effect hr
  refine ⟨fun hm => ?_, fun hm => ?_⟩
  · have he : effect (.mtxLoad4x4 a) s = publishDepths { s with pos := ⟨M, s.mode.written⟩ } := by
      simp [effect, loadTargets, mapTargets, hm, Reg.selectedBy, Reg.of, M]
    rw [hload, he]
    exact ⟨_, _, rfl, exec_eq_effect (runs_beginVtxs_after_load hr hproj rfl rfl rfl), map_snapshot_full44 hc hn _ a _⟩
  · have he : effect (.mtxLoad4x4 a) s = publishDepths { s with pos := ⟨M, s.mode.written⟩, vec := ⟨M, s.mode.written⟩ } := by
      simp [effect, loadTargets, mapTargets, hm, Reg.selectedBy, Reg.of, M]
    rw [hload, he]
    exact ⟨_, _, rfl, exec_eq_effect (runs_beginVtxs_after_load hr hproj rfl rfl rfl), map_snapshot_full44 hc hn _ a _,
      map_snapshot_full44 hc hn _ a _⟩

/-- A vertex command is within the boot requirements when what all of them read is written, and for a relative one the accumulator
too (R221). -/
theorem withinBoot_vertex {i : Instr} (h : isVertexCommand i = true) (s : State) :
    withinBoot i s = (s.clip.written && s.prim.written && (!isRelativeVertex i || s.cur.written)) := by
  cases i with
  | vtx16 | vtx10 => exact (Bool.and_true _).symm
  | vtxXy | vtxXz | vtxYz | vtxDiff => rfl
  | _ => cases h

/-- An absolute vertex command writes all of the accumulator; a relative one keeps its mark (R33, R221). -/
theorem vertexCur_written {i : Instr} (h : isVertexCommand i = true) (s : State) :
    (vertexCur i s).written = (!isRelativeVertex i || s.cur.written) := by
  cases i with
  | vtx16 | vtx10 | vtxXy | vtxXz | vtxYz | vtxDiff => rfl
  | _ => cases h

/-- The first of a list of vertex commands that runs itself runs, and leaves a state in which the others run (R221). -/
theorem runs_of_verticesRun {i : Instr} {is : List Instr} {s : State} (hv : isVertexCommand i = true)
    (h : VerticesRun (i :: is) s) : Runs i s ∧ VerticesRun is (effect i s) := by
  obtain ⟨_, _, _, _, e⟩ := addVtx_shape s (vertexCur i s)
  rw [effect_vertex hv, e]
  obtain hrun | ⟨hclip, hprim, hcur⟩ := h
  · exact ⟨.inr ⟨hrun, by rintro rfl; cases hv⟩, .inl hrun⟩
  · have hready : (!isRelativeVertex i || s.cur.written) = true := by
      obtain hcur | hhead := hcur
      · simp [hcur]
      · simp [hhead i rfl]
    exact ⟨.inl (by simp [withinBoot_vertex hv, hclip, hprim, hready]),
      .inr ⟨hclip, hprim, .inl ((vertexCur_written hv s).trans hready)⟩⟩

/-- A list of vertex commands that runs completes, with the effects one after another. -/
theorem runInstrs_vertices (is : List Instr) {s : State} (hv : ∀ i ∈ is, isVertexCommand i = true) (h : VerticesRun is s) :
    runInstrs is s = .next (is.foldl (fun t i => effect i t) s) := by
  induction is generalizing s with
  | nil => rfl
  | cons i is ih =>
    rw [List.forall_mem_cons] at hv
    obtain ⟨hr, hrest⟩ := runs_of_verticesRun hv.1 h
    rw [runInstrs, exec_eq_effect hr, andThen_next, ih hv.2 hrest, List.foldl_cons]

/-- The polygons that `n` vertices of one primitive draw, the first of them stored at index `m` (R243). -/
def drawnPolys (prim : PrimitiveMode) (m : Nat) : Nat → List Polygon
  | 0 => []
  | n + 1 => drawnPolys prim m n ++ ((polygonOffsets prim (n + 1)).bind (resolvePolygon (m + n + 1))).toList

/-- With room in the Polygon Store the assembler appends what the table selects, if anything (R245). -/
theorem nextPoly_of_room {cap c n : Nat} {prim : PrimitiveMode} {poly : List Polygon}
    (h : poly.length + ((polygonOffsets prim c).bind (resolvePolygon n)).toList.length ≤ cap) :
    nextPoly cap prim c n poly = poly ++ ((polygonOffsets prim c).bind (resolvePolygon n)).toList := by
  unfold nextPoly
  cases hp : (polygonOffsets prim c).bind (resolvePolygon n) with
  | none => simp
  | some p =>
    simp only [hp, Option.toList_some, List.length_singleton] at h ⊢
    rw [if_pos (by omega)]

/-- Vertices from counter 0 that fit both stores are all stored and counted, and draw the polygons of their primitive mode: by
induction from the last vertex. -/
theorem foldl_vertices (is : List Instr) {s : State} (hv : ∀ i ∈ is, isVertexCommand i = true) (hcnt : s.cnt = 0)
    (hvtx : s.vtx.length + is.length ≤ s.params.maxVtx)
    (hpoly : s.poly.length + (drawnPolys s.prim.val s.vtx.length is.length).length ≤ s.params.maxPoly) :
    let t := is.foldl (fun t i => effect i t) s
    t.params = s.params ∧ t.prim = s.prim ∧ t.cnt = is.length ∧ t.vtx.length = s.vtx.length + is.length ∧
      t.poly = s.poly ++ drawnPolys s.prim.val s.vtx.length is.length := by
  induction is using List.reverseRecOn with
  | nil => exact ⟨rfl, rfl, hcnt, rfl, (List.append_nil _).symm⟩
  | append_singleton is i ih =>
    rw [List.forall_mem_append] at hv
    simp only [List.length_append, List.length_singleton, drawnPolys] at hvtx hpoly
    obtain ⟨hp, hprim, hc, hn, hq⟩ := ih hv.1 (by omega) (by omega)
    rw [List.foldl_append, List.foldl_cons, List.foldl_nil]
    generalize is.foldl (fun t i => effect i t) s = t at hp hprim hc hn hq
    have hroom : ({ t with cur := vertexCur i t } : State).vtx.length < t.params.maxVtx := by
      rw [hp, hn]; omega
    rw [effect_vertex (hv.2 i (List.mem_singleton_self i)), addVtx_of_room hroom]
    refine ⟨hp, hprim, by simp [hc], by simp [hn]; omega, ?_⟩
    simp only [hp, hprim, hc, hn, hq, List.length_append, List.length_singleton, drawnPolys]
    rw [nextPoly_of_room (by simp only [List.length_append]; omega), List.append_assoc]

/-- In Triangles mode every third vertex closes a triangle of the last three (R243). -/
theorem drawnPolys_triangles (m n : Nat) : drawnPolys .triangles m n =
    (List.range (n / 3)).map fun k => Polygon.tri (m + 3 * k) (m + 3 * k + 1) (m + 3 * k + 2) := by
  induction n with
  | zero => rfl
  | succ n ih =>
    rw [drawnPolys, ih]
    by_cases h : (n + 1) % 3 = 0
    · have hn : n = 3 * (n / 3) + 2 := by omega
      rw [show (n + 1) / 3 = n / 3 + 1 by omega, List.range_succ, List.map_append]
      simp [polygonOffsets, h, resolvePolygon, storeIndex, show 1 < m + n + 1 by omega, show 2 < m + n + 1 by omega]
      omega
    · rw [show (n + 1) / 3 = n / 3 by omega]
      simp [polygonOffsets, h]

/-- In TriangleStrip mode every vertex from the third on closes a triangle with the two before it, with alternating winding (R243). -/
theorem drawnPolys_triangleStrip (m n : Nat) : drawnPolys .triangleStrip m n =
    (List.range (n - 2)).map fun k =>
      if k % 2 = 0 then Polygon.tri (m + k) (m + k + 1) (m + k + 2) else Polygon.tri (m + k + 1) (m + k) (m + k + 2) := by
  induction n with
  | zero => rfl
  | succ n ih =>
    rw [drawnPolys, ih]
    by_cases h : 3 ≤ n + 1
    · obtain ⟨k, rfl⟩ : ∃ k, n = k + 2 := ⟨n - 2, by omega⟩
      rw [show k + 2 + 1 - 2 = k + 1 by omega, show k + 2 - 2 = k by omega, List.range_succ, List.map_append]
      obtain hk | hk := Nat.mod_two_eq_zero_or_one k
      · simp [polygonOffsets, resolvePolygon, storeIndex, hk, show (k + 2 + 1) % 2 = 1 by omega,
          show 1 < m + (k + 2) + 1 by omega, show 2 < m + (k + 2) + 1 by omega]
        omega
      · simp [polygonOffsets, resolvePolygon, storeIndex, hk, show (k + 2 + 1) % 2 = 0 by omega,
          show 1 < m + (k + 2) + 1 by omega, show 2 < m + (k + 2) + 1 by omega]
        omega
    · rw [show n + 1 - 2 = n - 2 by omega]
      simp [polygonOffsets, h]

/-- Settles O47: the commands complete, and what they draw in Triangles mode is one triangle for every three vertices. -/
theorem trianglesTakeTheVerticesInThrees : Obligations.TrianglesTakeTheVerticesInThrees := by
  intro is s hv hrun hprim hcnt hvtx hpoly
  obtain ⟨-, -, hc, hn, hq⟩ := foldl_vertices is hv hcnt hvtx (by rw [hprim, drawnPolys_triangles]; simpa using hpoly)
  rw [hprim, drawnPolys_triangles] at hq
  exact ⟨_, runInstrs_vertices is hv hrun, hc, hn, hq⟩

/-- Settles O48: the commands complete, and what they draw in TriangleStrip mode alternates. -/
theorem stripTrianglesShareVerticesAndAlternate : Obligations.StripTrianglesShareVerticesAndAlternate := by
  intro is s hv hrun hprim hcnt hvtx hpoly
  obtain ⟨-, -, hc, hn, hq⟩ := foldl_vertices is hv hcnt hvtx (by rw [hprim, drawnPolys_triangleStrip]; simpa using hpoly)
  rw [hprim, drawnPolys_triangleStrip] at hq
  exact ⟨_, runInstrs_vertices is hv hrun, hc, hn, hq⟩

end Sys2Proof.Laws
end

section
/-! PROOFS. The matrix commands (spec/42_matrix.md R171 to R185, R192): the stacks, the targets, and the operands by their entries. -/

namespace Sys2Proof.Laws

open Sys2Proof.Machine Sys2Proof.Claims

theorem mode_ne_projection {s : State} (h : usesSharedStack s) : s.mode.val ≠ .projection := by
  obtain h | h := h <;> simp [h]

/-- Settles O29: the four cases of a push, with the depths published after it. -/
theorem mtxPushCopiesOrSetsTheErrorFlag : Obligations.MtxPushCopiesOrSetsTheErrorFlag := by
  refine ⟨⟨rfl, rfl⟩, fun s hr => ?_⟩
  have he : exec .mtxPush s = .next (publishDepths (pushCurrent s)) := exec_eq_effect hr
  rw [he]
  obtain ⟨hm, hd, e⟩ | ⟨hm, hd, e⟩ | ⟨hm, hd, e⟩ | ⟨hm, hd, e⟩ := pushCurrent_cases s
  · exact ⟨fun _ _ => by rw [e]; rfl, fun _ h => by omega, fun h => absurd hm (mode_ne_projection h),
      fun h => absurd hm (mode_ne_projection h)⟩
  · exact ⟨fun _ h => by omega, fun _ _ => by rw [e]; rfl, fun h => absurd hm (mode_ne_projection h),
      fun h => absurd hm (mode_ne_projection h)⟩
  · exact ⟨fun h => absurd h hm, fun h => absurd h hm, fun _ _ => by rw [e]; rfl, fun _ h => by omega⟩
  · exact ⟨fun h => absurd h hm, fun h => absurd h hm, fun _ h => by omega, fun _ _ => by rw [e]; rfl⟩

/-- A pop of the shared stack loads the slot its wrapped pointer names, and publishes the depths (R175). -/
theorem exec_mtxPop_shared {n : BitVec 6} {s : State} (hr : Runs (.mtxPop n) s) (hm : usesSharedStack s) (hs : StackInv s) :
    ∃ (i : Nat) (P V : Reg Mat4),
      (i : Int) = ((s.pvSp : Int) - n.toInt) % (s.params.pvStackSlots : Int) ∧
      s.posStack[i]? = some P ∧ s.vecStack[i]? = some V ∧
      exec (.mtxPop n) s = .next { s with
        pos := selected s P
        vec := selected s V
        pvSp := i
        err := s.err || decide ((s.pvSp : Int) - n.toInt < 0 ∨ (s.params.pvStackSlots : Int) ≤ (s.pvSp : Int) - n.toInt)
        stProjDepth := s.projSp
        stPvDepth := i } := by
  have hslots : 0 < s.params.pvStackSlots := Nat.zero_lt_of_lt hs.pointer
  have hcount : popCount n = n.toInt := sext_eq_toInt n
  have hi := wrapSlot_lt hslots ((s.pvSp : Int) - n.toInt)
  have hP : wrapSlot s.params ((s.pvSp : Int) - n.toInt) < s.posStack.length := by rw [hs.posSlots]; exact hi
  have hV : wrapSlot s.params ((s.pvSp : Int) - n.toInt) < s.vecStack.length := by rw [hs.vecSlots]; exact hi
  refine ⟨_, _, _, wrapSlot_val hslots _, List.getElem?_eq_getElem hP, List.getElem?_eq_getElem hV, ?_⟩
  obtain ⟨hproj, -⟩ | ⟨-, e⟩ := popCurrent_cases (popCount n) s
  · exact absurd hproj (mode_ne_projection hm)
  · have he : exec (.mtxPop n) s = .next (publishDepths (popCurrent (popCount n) s)) := exec_eq_effect hr
    rw [he, e]
    simp only [hcount, posSlot, vecSlot, stackSlot_of_lt _ hP, stackSlot_of_lt _ hV]
    rfl

/-- Settles O30: the two cases of a pop. -/
theorem mtxPopWrapsAndLoads : Obligations.MtxPopWrapsAndLoads := by
  refine ⟨rfl, fun n s hr => ⟨fun hm => ?_, fun hm hs => exec_mtxPop_shared hr hm hs⟩⟩
  obtain ⟨-, e⟩ | ⟨hne, -⟩ := popCurrent_cases (popCount n) s
  · have he : exec (.mtxPop n) s = .next (publishDepths (popCurrent (popCount n) s)) := exec_eq_effect hr
    have hsp : s.projSp.val = 0 ↔ s.projSp = 0 := by rw [Fin.ext_iff]; rfl
    rw [he, e]
    simp only [hsp]
    rfl
  · exact absurd hm hne

/-- Settles O31: the two cases of a store and of a restore. -/
theorem mtxStoreAndRestoreCopyASlot : Obligations.MtxStoreAndRestoreCopyASlot := by
  intro n s hstore hrestore
  have hs : exec (.mtxStore n) s = .next (publishDepths (storeCurrent n.toNat s)) := exec_eq_effect hstore
  have hr : exec (.mtxRestore n) s = .next (publishDepths (restoreCurrent n.toNat s)) := exec_eq_effect hrestore
  rw [hs, hr]
  refine ⟨fun hm => ?_, fun hm => ?_⟩
  · obtain ⟨-, e⟩ | ⟨hne, -⟩ := storeCurrent_cases n.toNat s
    · obtain ⟨-, e'⟩ | ⟨hne, -⟩ := restoreCurrent_cases n.toNat s
      · rw [e, e']; exact ⟨rfl, rfl⟩
      · exact absurd hm hne
    · exact absurd hm hne
  · obtain ⟨hproj, -⟩ | ⟨-, e⟩ := storeCurrent_cases n.toNat s
    · exact absurd hproj (mode_ne_projection hm)
    · obtain ⟨hproj, -⟩ | ⟨-, e'⟩ := restoreCurrent_cases n.toNat s
      · exact absurd hproj (mode_ne_projection hm)
      · rw [e, e']
        refine ⟨rfl, fun P V hP hV => ?_⟩
        obtain ⟨hPlt, rfl⟩ := List.getElem?_eq_some_iff.1 hP
        obtain ⟨hVlt, rfl⟩ := List.getElem?_eq_some_iff.1 hV
        rw [posSlot, vecSlot, stackSlot_of_lt _ hPlt, stackSlot_of_lt _ hVlt]
        rfl

/-- Pushes that stay within the depth and the slots (R174): the pointer goes up by their number, and they copy the current pair to the
slots it passes; nothing else that a later push reads changes. -/
theorem runPushes_within (k : Nat) : ∀ {s : State}, Runs .mtxPush s → usesSharedStack s →
    s.pvSp + k ≤ s.params.pvStackDepth → s.pvSp + k ≤ s.posStack.length → s.pvSp + k ≤ s.vecStack.length →
    ∃ t, runPushes k s = .next t ∧ t.params = s.params ∧ t.mode = s.mode ∧ t.pos = s.pos ∧ t.vec = s.vec ∧
      t.err = s.err ∧ t.pvSp = s.pvSp + k ∧ ∀ i,
        (s.pvSp ≤ i ∧ i < s.pvSp + k → t.posStack[i]? = some (selected s s.pos) ∧ t.vecStack[i]? = some (selected s s.vec)) ∧
        (i < s.pvSp ∨ s.pvSp + k ≤ i → t.posStack[i]? = s.posStack[i]? ∧ t.vecStack[i]? = s.vecStack[i]?) := by
  induction k with
  | zero =>
    exact fun _ _ _ _ _ => ⟨_, rfl, rfl, rfl, rfl, rfl, rfl, rfl, fun i => ⟨fun h => by omega, fun _ => ⟨rfl, rfl⟩⟩⟩
  | succ k ih =>
    intro s hr hm hdepth hP hV
    have hpush := (mtxPushCopiesOrSetsTheErrorFlag.2 s hr).2.2.2 hm (by omega)
    rw [runPushes, hpush, andThen_next]
    obtain ⟨t, ht, hparams, hmode, hpos, hvec, herr, hsp, hslots⟩ := ih (s := { s with
      posStack := s.posStack.set s.pvSp (selected s s.pos), vecStack := s.vecStack.set s.pvSp (selected s s.vec)
      pvSp := s.pvSp + 1, stProjDepth := s.projSp, stPvDepth := s.pvSp + 1 }) hr hm (by simp only; omega)
      (by simp only [List.length_set]; omega) (by simp only [List.length_set]; omega)
    refine ⟨t, ht, hparams, hmode, hpos, hvec, herr, by rw [hsp]; simp only; omega, fun i => ?_⟩
    obtain ⟨hin, hout⟩ := hslots i
    simp only [List.getElem?_set] at hin hout
    refine ⟨fun h => ?_, fun h => ?_⟩
    · by_cases hi : s.pvSp = i
      · have hself := hout (by omega)
        rw [if_pos hi, if_pos (by omega), if_pos hi, if_pos (by omega)] at hself
        exact hself
      · exact hin (by omega)
    · have hother := hout (by omega)
      rw [if_neg (by omega), if_neg (by omega)] at hother
      exact hother

/-- A push with the shared pointer at the depth sets the error flag and copies nothing (R174). -/
theorem runPushes_full {s : State} (hr : Runs .mtxPush s) (hm : usesSharedStack s) (hfull : s.params.pvStackDepth ≤ s.pvSp) :
    exec .mtxPush s = .next { s with err := true, stProjDepth := s.projSp, stPvDepth := s.pvSp } :=
  (mtxPushCopiesOrSetsTheErrorFlag.2 s hr).2.2.1 hm hfull

/-- One more push comes after the pushes before it. -/
theorem runPushes_succ (k : Nat) (s : State) : runPushes (k + 1) s = andThen (runPushes k s) (exec .mtxPush) := by
  induction k generalizing s with
  | zero => exact andThen_next_right _
  | succ k ih =>
    rw [runPushes, runPushes, andThen_assoc]
    exact andThen_congr fun t _ => ih t

/-- A push runs when `mode` is written, or the treatment is `run` (R186). -/
theorem runs_mtxPush_iff {s : State} : Runs .mtxPush s ↔ s.mode.written = true ∨ s.params.unwrittenUse = .run := by
  simp [Runs, withinBoot]

/-- So does a pop. -/
theorem runs_mtxPop_iff {n : BitVec 6} {s : State} :
    Runs (.mtxPop n) s ↔ s.mode.written = true ∨ s.params.unwrittenUse = .run := by
  simp [Runs, withinBoot]

/-- Settles O36: the pushes up to the depth stay within it, and the next finds the pointer there. -/
theorem thirtyOnePushesFitTheStack : Obligations.ThirtyOnePushesFitTheStack := by
  refine ⟨rfl, ?_⟩
  intro s hr hc hs hm h0 herr d
  have hdepth : d < s.params.pvStackSlots := hc.pvDepth
  have fit (k : Nat) (hk : k ≤ d) := runPushes_within k hr hm (by rw [h0]; omega) (by rw [hs.posSlots]; omega)
    (by rw [hs.vecSlots]; omega)
  refine ⟨fun k hk => ?_, ?_⟩
  · obtain ⟨t, ht, -, -, -, -, he, hsp, hslots⟩ := fit k hk
    refine ⟨t, ht, by omega, he.trans herr, fun i => ?_⟩
    obtain ⟨hin, hout⟩ := hslots i
    exact ⟨fun hi => hin (by omega), fun hi => hout (by omega)⟩
  · obtain ⟨t, ht, hp, hmode, -, -, -, hsp, -⟩ := fit d le_rfl
    have hfull := runPushes_full (by rw [runs_mtxPush_iff, hmode, hp]; exact runs_mtxPush_iff.1 hr) (by rw [usesSharedStack, hmode]; exact hm)
      (by rw [hp, hsp]; omega)
    have hnext := runPushes_succ d s
    rw [ht, andThen_next, hfull] at hnext
    exact ⟨t, _, ht, hnext, by simp only [hsp, h0, Nat.zero_add], rfl, rfl, rfl⟩

/-- Settles O37: the pop goes down to the slot `b`, within the stack and so without wrap or error, and the pushes come back up over it. -/
theorem popThenPushesRestoreThePointer : Obligations.PopThenPushesRestoreThePointer := by
  intro n s hr hs hm hdepth hpos hle
  obtain ⟨i, P, V, hi, hP, hV, hpop⟩ := exec_mtxPop_shared hr hm hs
  have hpointer := hs.pointer
  have hb : (i : Int) = s.pvSp - n.toInt := by rw [hi, Int.emod_eq_of_lt] <;> omega
  have hn : (n.toNat : Int) = n.toInt := by
    have h := BitVec.toInt_eq_toNat_cond n
    have hlt := n.isLt
    split at h <;> omega
  have hin : ¬((s.pvSp : Int) - n.toInt < 0 ∨ (s.params.pvStackSlots : Int) ≤ (s.pvSp : Int) - n.toInt) := by omega
  rw [decide_eq_false hin, Bool.or_false] at hpop
  obtain ⟨t, ht, -, -, htpos, htvec, hterr, htsp, hslots⟩ := runPushes_within n.toNat (s := { s with
    pos := selected s P, vec := selected s V, pvSp := i, err := s.err, stProjDepth := s.projSp, stPvDepth := i })
    (runs_mtxPush_iff.2 (runs_mtxPop_iff.1 hr)) hm (by simp only; omega) (by simp only [hs.posSlots]; omega)
    (by simp only [hs.vecSlots]; omega)
  refine ⟨_, t, i, P, V, hb, hP, hV, hpop, rfl, rfl, rfl, ht, by rw [htsp]; simp only; omega, hterr, htpos, htvec, fun j => ?_⟩
  obtain ⟨hover, hother⟩ := hslots j
  simp only [selected, Bool.and_assoc, Bool.and_self] at hover hother ⊢
  exact ⟨fun h => hover (by omega), fun h => hother (by omega)⟩

/-- The current matrices after a target operation with the depths published, by R171's first two rows. -/
theorem publishDepths_mapTargets_true (f : Reg Mat4 → Reg Mat4) (s : State) :
    publishDepths (mapTargets true f s) = targets12 s fun C => (f C).selectedBy s.mode.written := by
  unfold mapTargets targets12
  cases s.mode.val <;> rfl

/-- The same by R171's third row. -/
theorem publishDepths_mapTargets_false (f : Reg Mat4 → Reg Mat4) (s : State) :
    publishDepths (mapTargets false f s) = targets3 s fun C => (f C).selectedBy s.mode.written := by
  unfold mapTargets targets3
  cases s.mode.val <;> rfl

/-- A load replaces the targets (R171, first row). -/
theorem publishDepths_loadTargets (M : Mat4) (s : State) :
    publishDepths (loadTargets M s) = targets12 s fun _ => ⟨M, s.mode.written⟩ :=
  publishDepths_mapTargets_true _ s

/-- `mul_into` is the product on the configured side (R127). -/
theorem selectedBy_map_mulInto (s : State) (M : Mat4) :
    (fun C => (Reg.map (mulInto s.params M) C).selectedBy s.mode.written) = product s M := by
  funext C
  unfold product
  cases h : s.params.mulOrder with
  | operandLeft => simp only [Reg.map, Reg.selectedBy, mulInto_operandLeft h]
  | operandRight => simp only [Reg.map, Reg.selectedBy, mulInto_operandRight h]

theorem publishDepths_mulTargets (M : Mat4) (s : State) : publishDepths (mulTargets M s) = targets12 s (product s M) := by
  rw [mulTargets, publishDepths_mapTargets_true, selectedBy_map_mulInto]

theorem publishDepths_mulPosTargets (M : Mat4) (s : State) : publishDepths (mulPosTargets M s) = targets3 s (product s M) := by
  rw [mulPosTargets, publishDepths_mapTargets_false, selectedBy_map_mulInto]

/-- The entries of the 16-word operand (R126). -/
theorem full44_fix12_get (p : Params) (a : Vector Word 16) (r c : Fin 4) :
    (full44 (a.map (fix12 p))).get r c = fix12 p a[4 * c.val + r.val] := by
  simp

/-- The entries of the 12-word operand in its first three rows (R126). -/
theorem affine43_fix12_get (p : Params) (a : Vector Word 12) (r : Fin 3) (c : Fin 4) :
    (affine43 (a.map (fix12 p))).get r.castSucc c = fix12 p a[3 * c.val + r.val] := by
  simp [affine43]

/-- Its bottom row is (0, 0, 0, 1) (R126). -/
theorem affine43_get_bottom (a : Vector NUM 12) (c : Fin 4) : (affine43 a).get 3 c = if c = 3 then 1 else 0 := by
  simp [affine43]

/-- The entries of the 9-word operand in its first three rows and columns (R126). -/
theorem affine33_fix12_get (p : Params) (a : Vector Word 9) (r c : Fin 3) :
    (affine33 (a.map (fix12 p))).get r.castSucc c.castSucc = fix12 p a[3 * c.val + r.val] := by
  simp [affine33]

theorem affine33_get_bottom (a : Vector NUM 9) (c : Fin 4) : (affine33 a).get 3 c = if c = 3 then 1 else 0 := by
  simp [affine33, eq_comm]

theorem affine33_get_right (a : Vector NUM 9) (r : Fin 4) : (affine33 a).get r 3 = if r = 3 then 1 else 0 := by
  simp [affine33]

/-- Settles O32: the operands by their entries. -/
theorem identityAndLoadsReplaceTheTargets : Obligations.IdentityAndLoadsReplaceTheTargets := by
  refine fun s => ⟨fun hr => ⟨_, identity4_get, ?_⟩, fun a hr => ⟨_, full44_fix12_get s.params a, ?_⟩,
    fun a hr => ⟨_, affine43_fix12_get s.params a, affine43_get_bottom _, ?_⟩⟩
  all_goals rw [exec_eq_effect hr, ← publishDepths_loadTargets]; rfl

/-- Settles O33: the operands by their entries, the product by the configured order. -/
theorem multipliesTakeTheConfiguredOrder : Obligations.MultipliesTakeTheConfiguredOrder := by
  refine ⟨rfl, fun s => ⟨fun a hr => ⟨_, full44_fix12_get s.params a, ?_⟩,
    fun a hr => ⟨_, affine43_fix12_get s.params a, affine43_get_bottom _, ?_⟩,
    fun a hr => ⟨_, affine33_fix12_get s.params a, affine33_get_bottom _, affine33_get_right _, ?_⟩⟩⟩
  all_goals rw [exec_eq_effect hr, ← publishDepths_mulTargets]; rfl

theorem scaleMat_get (x y z : NUM) (r c : Fin 4) :
    (scaleMat x y z).get r c = if r = c then (Vec4.mk x y z 1).get r else 0 := by
  fin_cases r <;> fin_cases c <;> rfl

theorem translateMat_get (x y z : NUM) (r c : Fin 4) :
    (translateMat x y z).get r c = if c = 3 then (Vec4.mk x y z 1).get r else if r = c then 1 else 0 := by
  fin_cases r <;> fin_cases c <;> rfl

/-- Scaling a vertex multiplies its three coordinates (R126). -/
theorem xform_scaleMat (x y z : NUM) (v : Vec4) : xform .exact (scaleMat x y z) v = ⟨x * v.x, y * v.y, z * v.z, v.w⟩ := by
  refine vec4_ext fun r => ?_
  rw [xform_exact_get]
  fin_cases r <;> simp [scaleMat_get, Vec4.get]

/-- Translating a vertex adds to its three coordinates, in units of w (R126). -/
theorem xform_translateMat (x y z : NUM) (v : Vec4) :
    xform .exact (translateMat x y z) v = ⟨v.x + x * v.w, v.y + y * v.w, v.z + z * v.w, v.w⟩ := by
  refine vec4_ext fun r => ?_
  rw [xform_exact_get]
  fin_cases r <;> simp [translateMat_get, Vec4.get]

/-- Settles O34: the two operands by their entries and their action, the target by R171's third row. -/
theorem scaleAndTranslateLeaveTheVectorMatrix : Obligations.ScaleAndTranslateLeaveTheVectorMatrix := by
  refine fun x y z s => ⟨fun hr => ⟨_, scaleMat_get _ _ _, xform_scaleMat _ _ _, ?_⟩,
    fun hr => ⟨_, translateMat_get _ _ _, xform_translateMat _ _ _, ?_⟩⟩
  all_goals rw [exec_eq_effect hr, ← publishDepths_mulPosTargets]; rfl

end Sys2Proof.Laws
end

section
/-! PROOFS. SWAP_BUFFERS and the renderer (spec/45_render.md R260 to R272): which pixels an edge lights, and which a render pass. -/

namespace Sys2Proof.Laws

open Sys2Proof.Machine Sys2Proof.Claims

/-- The screen mapping of the model is R265's, for any `NUM`. -/
theorem toScreen_eq_screenOf (p : Params) (v : Vec4) : toScreen p v = screenOf p v := by
  unfold screenOf
  cases h : p.num with
  | exact => exact toScreen_exact h v
  | other => simp only [toScreen, h]; rfl

theorem outside_iff (p : Params) (a : Point) : a.outside p = true ↔ OffScreen p a := by
  simp [Point.outside, OffScreen, or_assoc]

/-- The walk does not depend on the direction of the edge (R269): the ends are put in the order of the major axis first, and when they
agree there the walk has one end only. -/
theorem walk_comm (p : Params) (a b : Point) : walk p a b = walk p b a := by
  unfold walk
  rw [show (b.y - a.y).natAbs = (a.y - b.y).natAbs by omega, show (b.x - a.x).natAbs = (a.x - b.x).natAbs by omega]
  by_cases hmajor : (a.y - b.y).natAbs ≤ (a.x - b.x).natAbs
  · rw [if_pos hmajor, if_pos hmajor]
    obtain h | h | h := lt_trichotomy a.x b.x
    · rw [if_neg h.not_gt, if_pos h]
    · have e : a = b := by cases a; cases b; simp_all; omega
      rw [e]
    · rw [if_pos h, if_neg h.not_gt]
  · rw [if_neg hmajor, if_neg hmajor]
    obtain h | h | h := lt_trichotomy a.y b.y
    · rw [if_neg h.not_gt, if_pos h]
    · exact absurd (by simp [h]) hmajor
    · rw [if_pos h, if_neg h.not_gt]

/-- Settles O51. -/
theorem walkIsSymmetric : Obligations.WalkIsSymmetric := walk_comm

/-- A degenerate edge has no pixels (R266 to R268, R271). -/
theorem edgePixels_degenerate {p : Params} {va vb : Vec4} (h : va.w = 0 ∨ vb.w = 0 ∨
    (OffScreen p (screenOf p va) ∧ OffScreen p (screenOf p vb)) ∨ screenOf p va = screenOf p vb) : edgePixels p va vb = [] := by
  simp only [← outside_iff, ← toScreen_eq_screenOf] at h
  unfold edgePixels
  by_cases hw : va.w = 0 ∨ vb.w = 0
  · rw [if_pos hw]
  · rw [if_neg hw]
    obtain h | h | ⟨ha, hb⟩ | h := h
    · exact absurd (.inl h) hw
    · exact absurd (.inr h) hw
    · simp only [ha, hb, Bool.and_self, if_true]
    · simp only [h, if_true, ite_self]

/-- Settles O52: no pixel is plotted. -/
theorem degenerateEdgesDrawNothing : Obligations.DegenerateEdgesDrawNothing := by
  intro p F va vb h
  rw [drawEdge, edgePixels_degenerate h, List.foldl_nil]

/-- Any other edge has the pixels of its walk (R266). -/
theorem edgePixels_eq_walk {p : Params} {va vb : Vec4} (ha : va.w ≠ 0) (hb : vb.w ≠ 0)
    (hon : ¬(OffScreen p (screenOf p va) ∧ OffScreen p (screenOf p vb))) (hne : screenOf p va ≠ screenOf p vb) :
    edgePixels p va vb = walk p (screenOf p va) (screenOf p vb) := by
  have hout : ¬((screenOf p va).outside p && (screenOf p vb).outside p) = true := by
    rw [Bool.and_eq_true, outside_iff, outside_iff]; exact hon
  simp only [edgePixels, toScreen_eq_screenOf]
  rw [if_neg (by simp [ha, hb]), if_neg hout, if_neg hne]

/-- The minor coordinate of a step is R269's, for any `NUM`. -/
theorem minorCoordinate_eq (p : Params) (start i n d : Int) :
    minorCoordinate p.num start i (p.num.div (p.num.ofInt n) (p.num.ofInt d)) = minorOf p start i n d := by
  unfold minorOf
  cases p.num <;> rfl

/-- The pixels of an x-major walk in the columns of the screen (R269, R270). -/
theorem mem_walkX {p : Params} {a b : Point} {x : Nat} {y : Int} (hx : x < p.fbW) : ⟨(x : Int), y⟩ ∈ walkX p a b ↔
    ∃ i : Nat, (i : Int) ≤ b.x - a.x ∧ (x : Int) = a.x + i ∧ y = minorOf p a.y i (b.y - a.y) (b.x - a.x) := by
  simp only [walkX, List.mem_filterMap, List.mem_range, minorCoordinate_eq]
  constructor
  · rintro ⟨c, -, hc⟩
    split at hc
    · next hab =>
      injection hc with hc
      injection hc with hcx hcy
      refine ⟨(x - a.x).toNat, by omega, by omega, ?_⟩
      rw [← hcy, Int.toNat_of_nonneg (by omega), ← hcx]
    · cases hc
  · rintro ⟨i, hi, hxi, rfl⟩
    refine ⟨x, hx, ?_⟩
    rw [if_pos (by omega), show (x : Int) - a.x = i by omega]

/-- The pixels of a y-major walk in the rows of the screen (R269, R270). -/
theorem mem_walkY {p : Params} {a b : Point} {x : Int} {y : Nat} (hy : y < p.fbH) : ⟨x, (y : Int)⟩ ∈ walkY p a b ↔
    ∃ i : Nat, (i : Int) ≤ b.y - a.y ∧ (y : Int) = a.y + i ∧ x = minorOf p a.x i (b.x - a.x) (b.y - a.y) := by
  simp only [walkY, List.mem_filterMap, List.mem_range, minorCoordinate_eq]
  constructor
  · rintro ⟨c, -, hc⟩
    split at hc
    · next hab =>
      injection hc with hc
      injection hc with hcx hcy
      refine ⟨(y - a.y).toNat, by omega, by omega, ?_⟩
      rw [← hcx, Int.toNat_of_nonneg (by omega), ← hcy]
    · cases hc
  · rintro ⟨i, hi, hyi, rfl⟩
    refine ⟨y, hy, ?_⟩
    rw [if_pos (by omega), show (y : Int) - a.y = i by omega]

/-- The pixels of a walk on the screen are those R269 plots. -/
theorem mem_walk {p : Params} (a b : Point) {x y : Nat} (hx : x < p.fbW) (hy : y < p.fbH) :
    ⟨(x : Int), (y : Int)⟩ ∈ walk p a b ↔ Walked p a b x y := by
  have hmajor : |b.y - a.y| ≤ |b.x - a.x| ↔ (b.y - a.y).natAbs ≤ (b.x - a.x).natAbs := by
    rw [Int.abs_eq_natAbs, Int.abs_eq_natAbs, Int.ofNat_le]
  unfold walk Walked
  simp only [hmajor]
  split
  · split
    · exact mem_walkX hx
    · exact mem_walkX hx
  · split
    · exact mem_walkY hy
    · exact mem_walkY hy

/-- The pixels of an edge on the screen are those R266 to R271 light. -/
theorem mem_edgePixels {p : Params} (va vb : Vec4) {x y : Nat} (hx : x < p.fbW) (hy : y < p.fbH) :
    ⟨(x : Int), (y : Int)⟩ ∈ edgePixels p va vb ↔ EdgeLights p va vb x y := by
  by_cases h : va.w ≠ 0 ∧ vb.w ≠ 0 ∧ ¬(OffScreen p (screenOf p va) ∧ OffScreen p (screenOf p vb)) ∧ screenOf p va ≠ screenOf p vb
  · obtain ⟨ha, hb, hon, hne⟩ := h
    rw [edgePixels_eq_walk ha hb hon hne, mem_walk _ _ hx hy, EdgeLights]
    simp only [ha, hb, hon, hne, ne_eq, not_false_eq_true, true_and]
  · have hdeg := h
    rw [not_and_or, not_and_or, not_and_or, not_not, not_not, not_not, not_not] at hdeg
    rw [edgePixels_degenerate hdeg]
    refine ⟨fun hmem => absurd hmem List.not_mem_nil, fun ⟨ha, hb, hon, hne, _⟩ => absurd ⟨ha, hb, hon, hne⟩ h⟩

/-- The edge `e` of a polygon over the store `vtx` lights `(x, y)`: both its vertices are stored, and their edge does. -/
def IndexedEdgeLights (p : Params) (vtx : List Vec4) (e : Nat × Nat) (x y : Nat) : Prop :=
  ∃ va vb, vtx[e.1]? = some va ∧ vtx[e.2]? = some vb ∧ EdgeLights p va vb x y

/-- Drawing one edge lights its pixels and leaves the others and the size of the frame (R266). -/
theorem drawIndexedEdge_spec {p : Params} (vtx : List Vec4) {F : Frame} (hF : Sized p F) (e : Nat × Nat) {x y : Nat}
    (hx : x < p.fbW) (hy : y < p.fbH) : Sized p (drawIndexedEdge p vtx F e) ∧
    (IndexedEdgeLights p vtx e x y → (drawIndexedEdge p vtx F e).pixel y x = some p.pixLine) ∧
    (¬IndexedEdgeLights p vtx e x y → (drawIndexedEdge p vtx F e).pixel y x = F.pixel y x) := by
  unfold drawIndexedEdge IndexedEdgeLights
  cases ha : vtx[e.1]? with
  | none => simp [hF]
  | some va =>
    cases hb : vtx[e.2]? with
    | none => simp [hF]
    | some vb =>
      have hlights : (∃ va' vb', some va = some va' ∧ some vb = some vb' ∧ EdgeLights p va' vb' x y) ↔
          ⟨(x : Int), (y : Int)⟩ ∈ edgePixels p va vb := by simp [mem_edgePixels va vb hx hy]
      simp only [hlights, drawEdge, foldl_plot_pixel _ hF y x hy hx]
      exact ⟨sized_foldl_plot _ hF, fun h => if_pos h, fun h => if_neg h⟩

/-- Drawing a list of edges (R263): a pixel is lit when an edge lights it, and as it was otherwise. -/
theorem foldl_drawIndexedEdge_spec {p : Params} (vtx : List Vec4) {x y : Nat} (hx : x < p.fbW) (hy : y < p.fbH)
    (L : List (Nat × Nat)) : ∀ {F : Frame}, Sized p F →
    ((∃ e ∈ L, IndexedEdgeLights p vtx e x y) → (L.foldl (drawIndexedEdge p vtx) F).pixel y x = some p.pixLine) ∧
    ((¬∃ e ∈ L, IndexedEdgeLights p vtx e x y) → (L.foldl (drawIndexedEdge p vtx) F).pixel y x = F.pixel y x) := by
  induction L with
  | nil => exact fun _ => ⟨fun ⟨_, h, _⟩ => absurd h List.not_mem_nil, fun _ => rfl⟩
  | cons e L ih =>
    intro F hF
    obtain ⟨hsized, hlit, hdark⟩ := drawIndexedEdge_spec vtx hF e hx hy
    obtain ⟨ihlit, ihdark⟩ := ih hsized
    simp only [List.foldl_cons, List.exists_mem_cons_iff]
    by_cases hrest : ∃ e ∈ L, IndexedEdgeLights p vtx e x y
    · exact ⟨fun _ => ihlit hrest, fun h => absurd (.inr hrest) h⟩
    · rw [ihdark hrest]
      exact ⟨fun h => hlit (h.resolve_right hrest), fun h => hdark fun he => h (.inl he)⟩

/-- A render pass draws the edges of all the polygons, one list after another, on a cleared frame (R263, R264). -/
theorem renderPass_eq_foldl (p : Params) (vtx : List Vec4) (poly : List Polygon) :
    renderPass p vtx poly = (poly.flatMap Polygon.edges).foldl (drawIndexedEdge p vtx) (.clear p) := by
  rw [renderPass, List.foldl_flatMap]

/-- Settles O50: the frame is the render pass, whose pixels are lit by the edges of its polygons and clear otherwise. -/
theorem swapLightsExactlyTheEdges : Obligations.SwapLightsExactlyTheEdges := by
  intro q s t h y x hy hx lit
  cases h
  have hspec := foldl_drawIndexedEdge_spec s.vtx hx hy (s.poly.flatMap Polygon.edges) (sized_clear s.params)
  rw [← renderPass_eq_foldl, clear_pixel _ _ _ hy hx] at hspec
  have hlit : (∃ e ∈ s.poly.flatMap Polygon.edges, IndexedEdgeLights s.params s.vtx e x y) ↔ lit := by
    simp only [lit, List.mem_flatMap, IndexedEdgeLights]
    constructor
    · rintro ⟨e, ⟨p, hp, he⟩, hl⟩; exact ⟨p, hp, e, he, hl⟩
    · rintro ⟨p, hp, e, he, hl⟩; exact ⟨e, ⟨p, hp, he⟩, hl⟩
  rw [hlit] at hspec
  refine ⟨hspec.1, hspec.2, fun hw => ?_⟩
  simp [readPixel, readFrame, Reg.read?, hw]

/-- Settles O49: the parameter is not read, and a render pass without polygons is the cleared frame. -/
theorem swapReplacesTheFrameAndEmptiesTheStores : Obligations.SwapReplacesTheFrameAndEmptiesTheStores :=
  fun _ s => ⟨rfl, fun y x hy hx => clear_pixel s.params y x hy hx⟩

/-- Settles O53: the positions and the 65 pixels by evaluation. -/
theorem workedEdgeExample : Obligations.WorkedEdgeExample := by
  unfold Obligations.WorkedEdgeExample
  decide +kernel

end Sys2Proof.Laws
end

section
/-! PROOFS. When a command completes and when it is refused (spec/70_reset_and_hazards.md R372 to R375, spec/93_implementation_defined.md
U1, U6), and what stays written. -/

namespace Sys2Proof.Laws

open Sys2Proof.Machine Sys2Proof.Claims

/-- A command is refused for the reserved mode, or for an Unwritten element under the treatment `refuse` (U1, U6). -/
theorem exec_refused_reason {i : Instr} {s : State} {r : Refusal} (h : exec i s = .refused r) :
    r = .reservedMatrixMode ∨ (r = .unwritten ∧ s.params.unwrittenUse = .refuse) := by
  obtain ⟨hr, rfl⟩ := exec_eq_refused h
  obtain rfl | ⟨-, hu⟩ := not_runs_iff.1 hr
  · exact .inl rfl
  · cases i with
    | mtxMode m => exact .inl rfl
    | _ => exact .inr ⟨rfl, hu⟩

/-- The command at the head of the queue, with the words it is executed with (R146). -/
def headCommand (op : Byte) (s : State) : Instr :=
  commandOf op (fun k => Config.missingParam (s.draws + k)) (headParams (s.params.arityOf op) s)

/-- The state it is executed in: the draws of the missing words are taken (notes/assumptions/14.md). -/
def drawn (op : Byte) (s : State) : State := { s with draws := s.draws + missingWords op s }

theorem executeHead_eq (op : Byte) (s : State) : executeHead op s = exec (headCommand op s) (drawn op s) := rfl

/-- A turn of the drain and the rest of it (R146, R147). -/
theorem drain_succ {s : State} {op : Byte} {ops : List Byte} (k : Nat) (h : s.cmdq = op :: ops) : drain (k + 1) s =
    andThen (exec (headCommand op s) (drawn op s)) fun t => drain k (removeHead (s.params.arityOf op) t) := by
  rw [drain_cons k h, dispatchHead, andThen_assoc, executeHead_eq]
  rfl

/-- A drain is refused only because a command in it is. -/
theorem drain_refused_reason (k : Nat) {s : State} {r : Refusal} (h : drain k s = .refused r) :
    r = .reservedMatrixMode ∨ (r = .unwritten ∧ s.params.unwrittenUse = .refuse) := by
  induction k generalizing s with
  | zero => cases h
  | succ k ih =>
    cases hq : s.cmdq with
    | nil => rw [drain_nil _ hq] at h; cases h
    | cons op ops =>
      rw [drain_succ k hq, andThen_eq_refused] at h
      obtain h | ⟨t, ht, h⟩ := h
      · exact exec_refused_reason (s := drawn op s) h
      · have hp : t.params = (drawn op s).params := exec_params ht
        have hrest := ih h
        rwa [removeHead_params, hp] at hrest

/-- Settles O21: there is no fault, and a step is refused only where its drain is. -/
theorem onlyReservedModesAndUnwrittenReadsAreRefused : Obligations.OnlyReservedModesAndUnwrittenReadsAreRefused := by
  refine fun s => ⟨(fun f => nomatch f), fun r h => ?_⟩
  obtain ⟨-, e⟩ | ⟨w, rest, -, e⟩ | ⟨b, rest, -, e⟩ | ⟨b, rest, -, e⟩ := step_cases s <;> rw [e] at h
  · cases h
  · by_cases h0 : (accumulate w { s with input := rest }).owed = 0
    · rw [submit_of_ready h0, andThen_eq_refused] at h
      obtain h | ⟨t, -, h⟩ := h
      · simpa only [accumulate_params] using drain_refused_reason _ h
      · cases h
    · rw [submit_of_owed h0] at h; cases h
  · cases h
  · cases h

/-- A command that reads `mode` needs it written (R186). -/
theorem withinBoot_of_mode_unwritten {i : Instr} {s : State} (hi : readsMode i = true) (h : s.mode.written = false) :
    withinBoot i s = false := by
  cases i with
  | mtxPush | mtxPop | mtxStore | mtxRestore | mtxIdentity | mtxLoad4x4 | mtxLoad4x3 => exact h
  | mtxMult4x4 | mtxMult4x3 | mtxMult3x3 | mtxScale | mtxTrans => simp [withinBoot, targetsWritten, h]
  | _ => cases hi

/-- One that recomputes `clip` needs `proj` and `pos` written (R190). -/
theorem withinBoot_recomputesClip {i : Instr} (h : recomputesClip i = true) (s : State) :
    withinBoot i s = (s.proj.written && s.pos.written) := by
  cases i with
  | beginVtxs | posTest => rfl
  | _ => cases h

/-- Outside the boot requirements every command but the reserved one is refused as `unwritten` under the treatment `refuse` (U6). -/
theorem exec_of_not_withinBoot {i : Instr} {s : State} (hu : s.params.unwrittenUse = .refuse) (hi : i ≠ .mtxMode 3)
    (h : withinBoot i s = false) : exec i s = .refused .unwritten := by
  rw [exec_of_not_runs (not_runs_iff.2 (.inr ⟨h, hu⟩))]
  cases i with
  | mtxMode m =>
    have hm : withinBoot (.mtxMode m) s = true := (matrixModeOf_isSome_iff m).2 fun e => hi (by rw [e])
    rw [hm] at h; cases h
  | _ => rfl

/-- The elements whose marks a command within the boot requirements keeps unless it is a copy. -/
structure MarksKept (s t : State) : Prop where
  mode : s.mode.written = true → t.mode.written = true
  prim : s.prim.written = true → t.prim.written = true
  proj : s.proj.written = true → t.proj.written = true
  pos : s.pos.written = true → t.pos.written = true
  vec : s.vec.written = true → t.vec.written = true
  clip : s.clip.written = true → t.clip.written = true
  cur : s.cur.written = true → t.cur.written = true
  store : s.storeWritten = true → t.storeWritten = true
  posmtx : s.posmtxResult.written = true → t.posmtxResult.written = true
  posResult : s.posResult.written = true → t.posResult.written = true

theorem MarksKept.refl (s : State) : MarksKept s s := ⟨id, id, id, id, id, id, id, id, id, id⟩

/-- Rewriting the targets of a written mode keeps the marks, when what it gives a written matrix is written. -/
theorem marksKept_mapTargets (both : Bool) {f : Reg Mat4 → Reg Mat4} {s : State} (hm : s.mode.written = true)
    (hf : ∀ C, C.written = true → (f C).written = true) : MarksKept s (publishDepths (mapTargets both f s)) := by
  have hg (C : Reg Mat4) (hC : C.written = true) : ((f C).selectedBy s.mode.written).written = true := by simp [hf C hC, hm]
  obtain ⟨-, e⟩ | ⟨-, e⟩ | ⟨-, e⟩ := mapTargets_cases both f s <;> rw [e]
  · exact { MarksKept.refl s with proj := hg s.proj }
  · exact { MarksKept.refl s with pos := hg s.pos }
  · cases both with
    | true => exact { MarksKept.refl s with pos := hg s.pos, vec := hg s.vec }
    | false => exact { MarksKept.refl s with pos := hg s.pos }

/-- A vertex command within the boot requirements leaves the accumulator written and the stores as they were marked (R221). -/
theorem marksKept_vertex {i : Instr} {s : State} (hv : isVertexCommand i = true) (h : withinBoot i s = true) :
    MarksKept s (effect i s) := by
  rw [withinBoot_vertex hv, Bool.and_eq_true, Bool.and_eq_true] at h
  obtain ⟨⟨hclip, hprim⟩, hready⟩ := h
  have hcur : (vertexCur i s).written = true := (vertexCur_written hv s).trans hready
  rw [effect_vertex hv]
  obtain ⟨-, e⟩ | ⟨-, q, -, e⟩ := addVtx_cases { s with cur := vertexCur i s } <;> rw [e]
  · exact { MarksKept.refl s with cur := fun _ => hcur }
  · exact { MarksKept.refl s with cur := fun _ => hcur, store := fun hw => by simp [storeMark, hw, hclip, hprim, hcur] }

/-- Within the boot requirements a multiply, scale or translate has its mode written. -/
theorem mode_written_of_targetsWritten {both : Bool} {s : State} (h : targetsWritten both s = true) : s.mode.written = true := by
  simp only [targetsWritten, Bool.and_eq_true] at h
  exact h.1

/-- Within the boot requirements no mark is lost but by a copy, or in the snapshot of an Unwritten `vec` (R186, R190). -/
theorem marksKept_effect {i : Instr} {s : State} (h : withinBoot i s = true) (hcopy : isCopy i = false) :
    MarksKept s (effect i s) := by
  cases i with
  | mtxMode m =>
    obtain ⟨v, hv⟩ := Option.isSome_iff_exists.1 h
    rw [effect_mtxMode hv]
    exact { MarksKept.refl s with mode := fun _ => rfl }
  | mtxPush | mtxPop | mtxStore | mtxRestore => cases hcopy
  | mtxIdentity | mtxLoad4x4 | mtxLoad4x3 => exact marksKept_mapTargets _ h fun _ _ => rfl
  | mtxMult4x4 | mtxMult4x3 | mtxMult3x3 | mtxScale | mtxTrans =>
    exact marksKept_mapTargets _ (mode_written_of_targetsWritten h) fun _ hC => hC
  | vtx16 | vtx10 | vtxXy | vtxXz | vtxYz | vtxDiff => exact marksKept_vertex rfl h
  | beginVtxs t => exact { MarksKept.refl s with prim := fun _ => rfl, clip := fun _ => h, posmtx := fun _ => (Bool.and_eq_true _ _ ▸ h).2 }
  | posTest x y z =>
    exact { MarksKept.refl s with
      clip := fun _ => h, posmtx := fun _ => (Bool.and_eq_true _ _ ▸ h).2, cur := fun _ => rfl, posResult := fun _ => h }
  | swapBuffers p => exact { MarksKept.refl s with store := fun _ => rfl }
  | boxTest => exact { MarksKept.refl s with mode := id }
  | _ => exact MarksKept.refl s

/-- Settles O59: the boot requirements are the readiness every command is decided by, and within them the marks are kept. -/
theorem commandsCompleteUnlessTheTreatmentRefuses : Obligations.CommandsCompleteUnlessTheTreatmentRefuses := by
  refine ⟨⟨rfl, rfl⟩, fun i s => ⟨fun h => ⟨_, exec_eq_effect (.inl h)⟩, fun h => h ▸ rfl,
    fun hu hi => ⟨_, exec_eq_effect (.inr ⟨hu, hi⟩)⟩, fun hu hi => ?_, fun t ht hb hcopy => ?_⟩⟩
  · have refused := exec_of_not_withinBoot hu hi
    refine ⟨refused, fun hi h => refused (withinBoot_of_mode_unwritten hi h), fun hi h => refused ?_, fun hi h => refused ?_⟩
    · rw [withinBoot_recomputesClip hi]
      obtain h | h := h <;> simp [h]
    · rw [withinBoot_vertex hi]
      obtain h | h | ⟨hrel, h⟩ := h
      · simp [h]
      · simp [h]
      · simp [hrel, h]
  · obtain ⟨-, rfl⟩ := exec_eq_next ht
    obtain ⟨hmode, hprim, hproj, hpos, hvec, hclip, hcur, hstore, hposmtx, hposResult⟩ := marksKept_effect hb hcopy
    exact ⟨hmode, hprim, hproj, hpos, hvec, hclip, hcur, hstore, hposmtx, hposResult⟩

/-- With every element written every command but the reserved one is within the boot requirements. -/
theorem withinBoot_of_everythingWritten {i : Instr} {s : State} (h : EverythingWritten s) (hi : i ≠ .mtxMode 3) :
    withinBoot i s = true := by
  have htargets (both : Bool) : targetsWritten both s = true := by
    unfold targetsWritten
    cases s.mode.val <;> simp [h.mode, h.proj, h.pos, h.vec]
  cases i with
  | mtxMode m => exact (matrixModeOf_isSome_iff m).2 fun e => hi (by rw [e])
  | mtxPush | mtxPop | mtxStore | mtxRestore | mtxIdentity | mtxLoad4x4 | mtxLoad4x3 => exact h.mode
  | mtxMult4x4 | mtxMult4x3 | mtxMult3x3 | mtxScale | mtxTrans => exact htargets _
  | vtx16 | vtx10 | vtxXy | vtxXz | vtxYz | vtxDiff =>
    rw [withinBoot_vertex rfl]
    simp [h.clip, h.prim, h.cur]
  | beginVtxs | posTest =>
    rw [withinBoot_recomputesClip rfl]
    simp [h.proj, h.pos]
  | _ => rfl

/-- Setting a slot to a written matrix leaves every slot written. -/
theorem written_set {stack : List (Reg Mat4)} (h : ∀ r ∈ stack, r.written = true) {C : Reg Mat4} (hC : C.written = true) (i : Nat) :
    ∀ r ∈ stack.set i C, r.written = true := by
  intro r hr
  obtain hr | rfl := List.mem_or_eq_of_mem_set hr
  · exact h r hr
  · exact hC

/-- A slot of a written stack is written. -/
theorem written_stackSlot {stack : List (Reg Mat4)} (h : ∀ r ∈ stack, r.written = true) (n : Nat) {i : Nat}
    (hi : i < stack.length) : (stackSlot stack n i).written = true := by
  rw [stackSlot_of_lt n hi]; exact h _ (List.getElem_mem hi)

/-- A copy to or from an existing slot leaves every element written. -/
theorem everythingWritten_copy {i : Instr} {s : State} (hcopy : isCopy i = true) (hc : ConfigInv s.params) (hs : StackInv s)
    (h : EverythingWritten s) : EverythingWritten (effect i s) := by
  have hsel {C : Reg Mat4} (hC : C.written = true) : (C.selectedBy s.mode.written).written = true := by simp [hC, h.mode]
  have hslots := hc.pvSlots
  have hpos {k : Nat} (hk : k < s.params.pvStackSlots) : (posSlot s k).written = true :=
    written_stackSlot h.posStack 0 (hs.posSlots ▸ hk)
  have hvec {k : Nat} (hk : k < s.params.pvStackSlots) : (vecSlot s k).written = true :=
    written_stackSlot h.vecStack 16 (hs.vecSlots ▸ hk)
  cases i with
  | mtxPush =>
    rw [effect]
    obtain ⟨-, -, e⟩ | ⟨-, -, e⟩ | ⟨-, -, e⟩ | ⟨-, -, e⟩ := pushCurrent_cases s <;> rw [e]
    · exact { h with mode := h.mode }
    · exact { h with projStack := hsel h.proj }
    · exact { h with mode := h.mode }
    · exact { h with posStack := written_set h.posStack (hsel h.pos) _, vecStack := written_set h.vecStack (hsel h.vec) _ }
  | mtxPop n =>
    rw [effect]
    have hwrap := wrapSlot_lt (p := s.params) (by omega) ((s.pvSp : Int) - popCount n)
    obtain ⟨-, e⟩ | ⟨-, e⟩ := popCurrent_cases (popCount n) s <;> rw [e]
    · exact { h with proj := hsel h.projStack }
    · exact { h with pos := hsel (hpos hwrap), vec := hsel (hvec hwrap) }
  | mtxStore k =>
    rw [effect]
    obtain ⟨-, e⟩ | ⟨-, e⟩ := storeCurrent_cases (slotIndex k) s <;> rw [e]
    · exact { h with projStack := hsel h.proj }
    · exact { h with posStack := written_set h.posStack (hsel h.pos) _, vecStack := written_set h.vecStack (hsel h.vec) _ }
  | mtxRestore k =>
    rw [effect]
    have hk : slotIndex k < s.params.pvStackSlots := lt_of_lt_of_le k.isLt hslots
    obtain ⟨-, e⟩ | ⟨-, e⟩ := restoreCurrent_cases (slotIndex k) s <;> rw [e]
    · exact { h with proj := hsel h.projStack }
    · exact { h with pos := hsel (hpos hk), vec := hsel (hvec hk) }
  | _ => cases hcopy

/-- A target operation leaves the stacks. -/
theorem mapTargets_stacks (both : Bool) (f : Reg Mat4 → Reg Mat4) (s : State) :
    let t := publishDepths (mapTargets both f s)
    t.projStack = s.projStack ∧ t.posStack = s.posStack ∧ t.vecStack = s.vecStack := by
  obtain ⟨_, _, _, e⟩ := mapTargets_shape both f s
  rw [e]
  exact ⟨rfl, rfl, rfl⟩

/-- Only copies write the stacks (R79). -/
theorem effect_stacks {i : Instr} (hcopy : isCopy i = false) (s : State) : (effect i s).projStack = s.projStack ∧
    (effect i s).posStack = s.posStack ∧ (effect i s).vecStack = s.vecStack := by
  by_cases hv : isVertexCommand i = true
  · obtain ⟨_, _, _, _, e⟩ := addVtx_shape s (vertexCur i s)
    rw [effect_vertex hv, e]
    exact ⟨rfl, rfl, rfl⟩
  · cases i with
    | mtxPush | mtxPop | mtxStore | mtxRestore => cases hcopy
    | mtxMode m => rw [effect]; split <;> exact ⟨rfl, rfl, rfl⟩
    | mtxIdentity | mtxLoad4x4 | mtxLoad4x3 | mtxMult4x4 | mtxMult4x3 | mtxMult3x3 | mtxScale | mtxTrans =>
      exact mapTargets_stacks _ _ s
    | vtx16 | vtx10 | vtxXy | vtxXz | vtxYz | vtxDiff => exact absurd rfl hv
    | _ => exact ⟨rfl, rfl, rfl⟩

/-- A state with every element written and the slots the pointers name: a command reads no Unwritten element in it, and leaves such a
state. -/
def FullyWritten (s : State) : Prop := CommandInv s ∧ EverythingWritten s

/-- Neither the queue side nor the draw counter matters. -/
theorem FullyWritten.withQueue {s : State} (q : QueueSide) (h : FullyWritten s) : FullyWritten (withQueue q s) :=
  ⟨commandInv_withQueue q h.1, { h.2 with mode := h.2.mode }⟩

theorem FullyWritten.draws {s : State} (d : Nat) (h : FullyWritten s) : FullyWritten { s with draws := d } :=
  ⟨commandInv_draws d h.1, { h.2 with mode := h.2.mode }⟩

/-- Every command keeps it: a copy reads slots that exist. -/
theorem FullyWritten.exec {i : Instr} {s t : State} (h : FullyWritten s) (ht : exec i s = .next t) : FullyWritten t := by
  obtain ⟨hinv, hs⟩ := h
  refine ⟨exec_commandInv ht hinv, ?_⟩
  obtain ⟨hr, rfl⟩ := exec_eq_next ht
  cases hcopy : isCopy i with
  | true => exact everythingWritten_copy hcopy hinv.config hinv.stack hs
  | false =>
    have hk := marksKept_effect (withinBoot_of_everythingWritten hs (runs_ne hr)) hcopy
    obtain ⟨hproj, hpos, hvec⟩ := effect_stacks hcopy s
    exact { mode := hk.mode hs.mode, prim := hk.prim hs.prim, proj := hk.proj hs.proj, pos := hk.pos hs.pos, vec := hk.vec hs.vec
            clip := hk.clip hs.clip, cur := hk.cur hs.cur, projStack := hproj ▸ hs.projStack, posStack := hpos ▸ hs.posStack
            vecStack := hvec ▸ hs.vecStack, store := hk.store hs.store }

theorem FullyWritten.submit {w : Word} {s t : State} (h : FullyWritten s) (ht : submit w s = .next t) : FullyWritten t := by
  refine submit_induction FullyWritten (fun w s hs => ?_) (fun _ _ _ h hs => hs.exec h) (fun d _ hs => hs.draws d)
    (fun n s hs => hs.withQueue (queueSide (removeHead n s))) (fun s hs => hs.withQueue (queueSide (updateStatus s))) ht h
  rw [accumulate_eq_withQueue]
  exact hs.withQueue _

/-- A state in which every command but the reserved one runs, and stays so. -/
def Ready (s : State) : Prop := s.params.unwrittenUse = .run ∨ FullyWritten s

theorem Ready.withQueue {s : State} (q : QueueSide) (h : Ready s) : Ready (withQueue q s) :=
  h.imp_right fun h => h.withQueue q

theorem Ready.draws {s : State} (d : Nat) (h : Ready s) : Ready { s with draws := d } :=
  h.imp_right fun h => h.draws d

theorem Ready.exec {i : Instr} {s t : State} (h : Ready s) (ht : exec i s = .next t) : Ready t := by
  obtain hrun | hw := h
  · exact .inl (by rw [exec_params ht, hrun])
  · exact .inr (hw.exec ht)

theorem Ready.completes {i : Instr} {s : State} (h : Ready s) (hi : i ≠ .mtxMode 3) : ∃ t, Machine.exec i s = .next t := by
  obtain hrun | ⟨-, hw⟩ := h
  · exact ⟨_, exec_eq_effect (.inr ⟨hrun, hi⟩)⟩
  · exact ⟨_, exec_eq_effect (.inl (withinBoot_of_everythingWritten hw hi))⟩

/-- A queue without MTX_MODE drains. -/
theorem drain_completes (k : Nat) {s : State} (h : Ready s) (hq : ∀ op ∈ s.cmdq, op ≠ 0x10) : ∃ t, drain k s = .next t := by
  induction k generalizing s with
  | zero => exact ⟨s, rfl⟩
  | succ k ih =>
    cases hc : s.cmdq with
    | nil => exact ⟨s, drain_nil _ hc⟩
    | cons op ops =>
      rw [hc, List.forall_mem_cons] at hq
      obtain ⟨hop, hops⟩ := hq
      have hi : headCommand op s ≠ .mtxMode 3 := fun e => hop ((commandOf_opcode ..).symm.trans (congrArg Instr.opcode e))
      have hu : Ready (drawn op s) := h.draws _
      obtain ⟨v, hv⟩ := hu.completes hi
      rw [drain_succ k hc, hv, andThen_next]
      refine ih ((hu.exec hv).withQueue (queueSide (removeHead (s.params.arityOf op) v))) ?_
      have hvq : v.cmdq = op :: ops := (exec_cmdq hv).trans hc
      rw [removeHead_cmdq, hvq]
      exact hops

/-- A list of decoded commands without the reserved one runs. -/
theorem runCommands_completes (cs : List (Byte × Instr)) {s : State} (h : Ready s) (hcs : ∀ c ∈ cs, c.2 ≠ .mtxMode 3) :
    ∃ t, runCommands cs s = .next t := by
  induction cs generalizing s with
  | nil => exact ⟨s, rfl⟩
  | cons c cs ih =>
    rw [List.forall_mem_cons] at hcs
    obtain ⟨hc, hrest⟩ := hcs
    obtain ⟨t, ht⟩ := h.completes hc
    obtain ⟨u, hu⟩ := ih ((h.exec ht).withQueue (queueSide (headRemoved (s.params.arityOf c.1) t))) hrest
    refine ⟨u, ?_⟩
    rw [runCommands, ht, andThen_next]
    exact hu

/-- A submit completes when the drain of the accumulated queue does. -/
theorem submit_completes {w : Word} {s : State}
    (h : (accumulate w s).owed = 0 → ∃ t, drain (accumulate w s).cmdq.length (accumulate w s) = .next t) :
    ∃ t, submit w s = .next t := by
  by_cases h0 : (accumulate w s).owed = 0
  · obtain ⟨t, ht⟩ := h h0
    exact ⟨_, by rw [submit_of_ready h0, ht, andThen_next]⟩
  · exact ⟨_, submit_of_owed h0⟩

/-- Settles O22: the accumulated state is ready, and readiness lasts through the drain. -/
theorem everyWordIsAccepted : Obligations.EveryWordIsAccepted := by
  intro w rest s hin a
  rw [step_of_submit hin]
  let q : QueueSide := { queueSide s with input := rest }
  refine ⟨fun hs => ?_, fun t hinv hw ht => (FullyWritten.withQueue q ⟨((inv_iff s).1 hinv).1, hw⟩).submit ht |>.2⟩
  have hready : Ready a := by
    have h : Ready s := hs.imp_right fun ⟨hinv, hw⟩ => ⟨((inv_iff s).1 hinv).1, hw⟩
    rw [show a = withQueue (queueSide a) { s with input := rest } from accumulate_eq_withQueue w _]
    exact (h.withQueue q).withQueue _
  refine ⟨fun hq => submit_completes fun _ => drain_completes _ hready hq, fun free is left har hd his => ?_⟩
  refine submit_completes fun _ => ?_
  have hp : a.params = s.params := accumulate_params w { s with input := rest }
  rw [← hp] at har hd
  rw [drain_eq_runCommands a.cmdq rfl har hd]
  exact runCommands_completes _ hready fun c hc => his _ (List.of_mem_zip hc).2

/-- An Unwritten register has no value to read (R372). -/
theorem read?_of_unwritten {α : Type} {r : Reg α} (h : r.written = false) : r.read? = none := if_neg (by simp [h])

/-- With room in the store, a vertex made from or assembled by an Unwritten element takes the mark of the stores away (R221). -/
theorem storeWritten_vertex_of_unwritten {i : Instr} {s : State} (hv : isVertexCommand i = true)
    (hroom : s.vtx.length < s.params.maxVtx)
    (h : s.clip.written = false ∨ s.prim.written = false ∨ (isRelativeVertex i = true ∧ s.cur.written = false)) :
    (effect i s).storeWritten = false := by
  have hcur := vertexCur_written hv s
  rw [effect_vertex hv, addVtx_of_room (s := { s with cur := vertexCur i s }) hroom]
  obtain h | h | ⟨hrel, h⟩ := h
  · simp [storeMark, h]
  · simp [storeMark, h]
  · simp [storeMark, hcur, hrel, h]

/-- Settles O57: what is Unwritten has no value, and the swap gives the frame the mark of the stores. -/
theorem unwrittenResultsHaveNoValueToRead : Obligations.UnwrittenResultsHaveNoValueToRead := by
  refine fun s => ⟨fun h => ?_, fun h k => ?_, fun h k => ?_, fun h k => ?_, read?_of_unwritten, fun p t ht => ?_,
    fun i p hrun hv hroom h => ?_⟩
  · have hframe : readFrame s = none := read?_of_unwritten h
    exact ⟨hframe, fun y x => by rw [readPixel, hframe]; rfl⟩
  · rw [readPosmtx, read?_of_unwritten h]; rfl
  · rw [readVecmtx, read?_of_unwritten h]; rfl
  · rw [readPosResult, read?_of_unwritten h]; rfl
  · cases ht; rfl
  · exact ⟨_, _, exec_eq_effect (.inr ⟨hrun, by rintro rfl; cases hv⟩), rfl,
      read?_of_unwritten (storeWritten_vertex_of_unwritten hv hroom h)⟩

end Sys2Proof.Laws
end

section
/-! PROOFS. The values held in Unwritten elements reach nothing the spec gives a value (spec/70_reset_and_hazards.md R372). The shape of
the argument: an operation may as well work on the erased state, as what it leaves has the same erasure. -/

namespace Sys2Proof.Laws

open Sys2Proof.Machine Sys2Proof.Claims

@[simp] theorem erase_written {α : Type} (d : α) (r : Reg α) : (r.erase d).written = r.written := by
  unfold Reg.erase
  split
  · rfl
  next h => exact (Bool.eq_false_iff.2 h).symm

theorem erase_of_written {α : Type} (d : α) {r : Reg α} (h : r.written = true) : r.erase d = r := if_pos h

theorem erase_of_unwritten {α : Type} (d : α) {r : Reg α} (h : r.written = false) : r.erase d = ⟨d, false⟩ := if_neg (by simp [h])

@[simp] theorem erase_erase {α : Type} (d e : α) (r : Reg α) : (r.erase e).erase d = r.erase d := by
  cases h : r.written with
  | true => rw [erase_of_written e h]
  | false => rw [erase_of_unwritten d h, erase_of_unwritten d (by simp [h])]

@[simp] theorem erase_of {α : Type} (d v : α) : (Reg.of v).erase d = .of v := rfl

@[simp] theorem erase_map_erase {α β : Type} (f : α → β) (d : β) (e : α) (r : Reg α) :
    ((r.erase e).map f).erase d = (r.map f).erase d := by
  cases h : r.written with
  | true => rw [erase_of_written e h]
  | false => rw [erase_of_unwritten d (by simp [h]), erase_of_unwritten d (by simp [h])]

@[simp] theorem erase_map₂_erase {α β γ : Type} (f : α → β → γ) (d : γ) (e : α) (e' : β) (a : Reg α) (b : Reg β) :
    (Reg.map₂ f (a.erase e) (b.erase e')).erase d = (Reg.map₂ f a b).erase d := by
  cases h : a.written && b.written with
  | true =>
    obtain ⟨ha, hb⟩ := Bool.and_eq_true_iff.1 h
    rw [erase_of_written e ha, erase_of_written e' hb]
  | false => rw [erase_of_unwritten d (by simpa using h), erase_of_unwritten d (by simpa using h)]

/-- The image of two registers with one erasure has one erasure. -/
theorem erase_map_congr {α β : Type} {f : α → β} {d : β} (e : α) {r r' : Reg α} (h : r.erase e = r'.erase e) :
    (r.map f).erase d = (r'.map f).erase d := by
  rw [← erase_map_erase f d e r, h, erase_map_erase]

/-- A slot read from the erased stack (R32). -/
@[simp] theorem erase_stackSlot (d : Mat4) (stack : List (Reg Mat4)) (n i : Nat) :
    (stackSlot (stack.map (Reg.erase d)) n i).erase d = (stackSlot stack n i).erase d := by
  by_cases h : i < stack.length
  · rw [stackSlot_of_lt n (by simpa using h), stackSlot_of_lt n h, List.getElem_map, erase_erase]
  · have h : stack.length ≤ i := Nat.le_of_not_lt h
    rw [erase_of_unwritten d (stackSlot_of_ge n h), erase_of_unwritten d (stackSlot_of_ge n (by simpa using h))]

@[simp] theorem erase_comp_erase {α : Type} (d : α) : Reg.erase d ∘ Reg.erase d = Reg.erase d :=
  funext fun r => erase_erase d d r

@[simp] theorem erase_idem (s : State) : s.erase.erase = s.erase := by
  cases h : s.storeWritten <;> simp [State.erase, h]

/-- Rewriting the targets of a written mode, by an `f` that does not see Unwritten matrices. -/
theorem erase_mapTargets {both : Bool} {f : Reg Mat4 → Reg Mat4} {s : State} (hm : s.mode.written = true)
    (hf : ∀ C, (f (C.erase .zero)).erase .zero = (f C).erase .zero) :
    (publishDepths (mapTargets both f s.erase)).erase = (publishDepths (mapTargets both f s)).erase := by
  have hmode : s.erase.mode = s.mode := erase_of_written _ hm
  unfold mapTargets
  rw [hmode]
  cases h : s.storeWritten <;> cases both <;> cases s.mode.val <;> simp [State.erase, publishDepths, h, hm, hf]

/-- A function agrees on two conditionals when it does on their branches. -/
theorem apply_ite_congr {α β : Type} (f : α → β) {c : Prop} {d d' : Decidable c} {a b x y : α} (h : f a = f b) (h' : f x = f y) :
    f (@ite α c d a x) = f (@ite α c d' b y) := by
  by_cases hc : c
  · rw [if_pos hc, if_pos hc, h]
  · rw [if_neg hc, if_neg hc, h']

/-- With the mode written both push the same way, or fail the same way. -/
theorem erase_pushCurrent {s : State} (hm : s.mode.written = true) :
    (publishDepths (pushCurrent s.erase)).erase = (publishDepths (pushCurrent s)).erase := by
  have hmode : s.erase.mode = s.mode := erase_of_written _ hm
  have herr : (publishDepths (softError s.erase)).erase = (publishDepths (softError s)).erase := by
    cases h : s.storeWritten <;> simp [State.erase, publishDepths, softError, h]
  have hproj : (publishDepths { saveProjection s.erase with projSp := 1 }).erase =
      (publishDepths { saveProjection s with projSp := 1 }).erase := by
    cases h : s.storeWritten <;> simp [State.erase, publishDepths, saveProjection, h, hm]
  have hpv (i k : Nat) : (publishDepths { saveSlot i s.erase with pvSp := k }).erase =
      (publishDepths { saveSlot i s with pvSp := k }).erase := by
    cases h : s.storeWritten <;> simp [State.erase, publishDepths, saveSlot, List.map_set, h, hm]
  unfold pushCurrent
  rw [hmode]
  cases s.mode.val with
  | projection => exact apply_ite_congr (fun t => (publishDepths t).erase) herr hproj
  | position | positionAndVector => exact apply_ite_congr (fun t => (publishDepths t).erase) herr (hpv ..)

/-- With it written both pop the same slot. -/
theorem erase_popCurrent {s : State} (hm : s.mode.written = true) (n : Int) :
    (publishDepths (popCurrent n s.erase)).erase = (publishDepths (popCurrent n s)).erase := by
  have hmode : s.erase.mode = s.mode := erase_of_written _ hm
  unfold popCurrent
  rw [hmode]
  cases h : s.storeWritten <;> cases s.mode.val <;>
    simp [State.erase, publishDepths, loadProjection, loadSlot, posSlot, vecSlot, softErrorIf, h, hm]

/-- Both store to the same slot. -/
theorem erase_storeCurrent {s : State} (hm : s.mode.written = true) (k : Nat) :
    (publishDepths (storeCurrent k s.erase)).erase = (publishDepths (storeCurrent k s)).erase := by
  have hmode : s.erase.mode = s.mode := erase_of_written _ hm
  unfold storeCurrent
  rw [hmode]
  cases h : s.storeWritten <;> cases s.mode.val <;>
    simp [State.erase, publishDepths, saveProjection, saveSlot, List.map_set, h, hm]

/-- Both restore the same slot. -/
theorem erase_restoreCurrent {s : State} (hm : s.mode.written = true) (k : Nat) :
    (publishDepths (restoreCurrent k s.erase)).erase = (publishDepths (restoreCurrent k s)).erase := by
  have hmode : s.erase.mode = s.mode := erase_of_written _ hm
  unfold restoreCurrent
  rw [hmode]
  cases h : s.storeWritten <;> cases s.mode.val <;>
    simp [State.erase, publishDepths, loadProjection, loadSlot, posSlot, vecSlot, h, hm]

/-- `add_vtx` reads only the number of the stored vertices, and beyond that what the mark of the stores tells of (R221). -/
theorem erase_addVtx (s : State) : (addVtx s.erase).erase = (addVtx s).erase := by
  have hvtx : s.erase.vtx.length = s.vtx.length := by cases h : s.storeWritten <;> simp [State.erase, h]
  have hmark : storeMark s.erase = storeMark s := by simp [storeMark, State.erase]
  by_cases hroom : s.vtx.length < s.params.maxVtx
  · rw [addVtx_of_room hroom, addVtx_of_room (s := s.erase) (by rw [hvtx]; exact hroom), hmark, hvtx]
    cases h : storeMark s with
    | true =>
      obtain ⟨⟨⟨hstore, hclip⟩, hprim⟩, hcur⟩ : ((s.storeWritten ∧ s.clip.written) ∧ s.prim.written) ∧ s.cur.written := by
        simpa [storeMark] using h
      simp [State.erase, erase_of_written, hstore, hclip, hprim, hcur]
    | false => cases hstore : s.storeWritten <;> simp [State.erase, hstore]
  · have hfull := Nat.le_of_not_lt hroom
    rw [addVtx_of_full hfull, addVtx_of_full (s := s.erase) (by rw [hvtx]; exact hfull), erase_idem]

/-- So the vertex commands have one erasure in a state and its erasure. -/
theorem erase_effect_vertex {i : Instr} (hv : isVertexCommand i = true) (s : State) :
    (effect i s.erase).erase = (effect i s).erase := by
  have hcur : (vertexCur i s.erase).erase .zero = (vertexCur i s).erase .zero := by
    cases i with
    | vtx16 | vtx10 => rfl
    | vtxXy | vtxXz | vtxYz | vtxDiff => exact erase_map_erase ..
    | _ => cases hv
  have hstart : { s.erase with cur := vertexCur i s.erase }.erase = { s with cur := vertexCur i s }.erase := by
    cases h : s.storeWritten <;> simp [State.erase, h] <;> exact hcur
  rw [effect_vertex hv, effect_vertex hv, ← erase_addVtx, hstart, erase_addVtx]

/-- Whether a command runs is told by the marks, and by the value of a written mode. -/
theorem runs_erase (i : Instr) (s : State) : Runs i s.erase ↔ Runs i s := by
  have htargets (both : Bool) : targetsWritten both s.erase = targetsWritten both s := by
    cases hm : s.mode.written with
    | true => simp [targetsWritten, State.erase, erase_of_written _ hm]
    | false => simp [targetsWritten, State.erase, hm]
  have hboot : withinBoot i s.erase = withinBoot i s := by
    cases i with
    | mtxMult4x4 | mtxMult4x3 | mtxMult3x3 | mtxScale | mtxTrans => exact htargets _
    | _ => simp [withinBoot, vertexReady, relativeVertexReady, clipOperandsWritten, State.erase]
  rw [Runs, Runs, hboot]
  rfl

/-- A command that has its mode, where it reads it, has one erasure in a state and its erasure: by kinds of command. -/
theorem erase_effect {i : Instr} {s : State} (hm : readsMode i = true → s.mode.written = true) :
    (effect i s.erase).erase = (effect i s).erase := by
  cases i with
  | mtxMode m =>
    cases hv : matrixModeOf m with
    | some v =>
      rw [effect_mtxMode hv, effect_mtxMode hv]
      cases h : s.storeWritten <;> simp [State.erase, publishDepths, h]
    | none => simp [effect, hv]
  | mtxPush => exact erase_pushCurrent (hm rfl)
  | mtxPop n => exact erase_popCurrent (hm rfl) _
  | mtxStore k => exact erase_storeCurrent (hm rfl) _
  | mtxRestore k => exact erase_restoreCurrent (hm rfl) _
  | mtxIdentity | mtxLoad4x4 | mtxLoad4x3 => exact erase_mapTargets (hm rfl) fun _ => rfl
  | mtxMult4x4 | mtxMult4x3 | mtxMult3x3 | mtxScale | mtxTrans => exact erase_mapTargets (hm rfl) fun _ => erase_map_erase ..
  | vtx16 | vtx10 | vtxXy | vtxXz | vtxYz | vtxDiff => exact erase_effect_vertex rfl s
  | beginVtxs t => cases h : s.storeWritten <;> simp [State.erase, effect, updateClip, h]
  | posTest x y z =>
    cases h : s.storeWritten <;> simp [State.erase, effect, updateClip, h] <;> exact erase_map_congr .zero (erase_map₂_erase ..)
  | swapBuffers p => cases h : s.storeWritten <;> simp [State.erase, effect, erase_of_unwritten, h]
  | boxTest => cases h : s.storeWritten <;> simp [State.erase, effect, h]
  | _ => exact erase_idem s

/-- Under the treatment `run` the mode is written, so that every command that reads it has it (notes/assumptions/2.md). -/
def ModeKnown (s : State) : Prop := s.params.unwrittenUse = .run → s.mode.written = true

/-- One command: it runs in both states or in neither, and has one erasure. -/
theorem eraseOutcome_exec_erase {i : Instr} {s : State}
    (hm : s.params.unwrittenUse = .run → readsMode i = true → s.mode.written = true) :
    eraseOutcome (exec i s.erase) = eraseOutcome (exec i s) := by
  by_cases hr : Runs i s
  · have hmode : readsMode i = true → s.mode.written = true := by
      intro hi
      obtain hb | ⟨hu, -⟩ := hr
      · by_contra hw
        rw [withinBoot_of_mode_unwritten hi (by simpa using hw)] at hb
        cases hb
      · exact hm hu hi
    rw [exec_eq_effect hr, exec_eq_effect ((runs_erase i s).2 hr)]
    exact congrArg Host.Outcome.next (erase_effect hmode)
  · rw [exec_of_not_runs hr, exec_of_not_runs (mt (runs_erase i s).1 hr)]

/-- What an erasure leaves is the same in two states with one erasure. -/
theorem eq_of_erase_eq {α : Type} (g : State → α) (hg : ∀ t, g t.erase = g t) {s s' : State} (h : s.erase = s'.erase) : g s = g s' := by
  rw [← hg, h, hg]

/-- An operation that an erasure commutes with keeps one erasure. -/
theorem erase_congr (f : State → State) (hf : ∀ t, f t.erase = (f t).erase) {s s' : State} (h : s.erase = s'.erase) :
    (f s).erase = (f s').erase := by
  rw [← hf, h, hf]

/-- A command in two states with one erasure. -/
theorem eraseOutcome_exec {i : Instr} {s s' : State} (h : s.erase = s'.erase)
    (hm : s.params.unwrittenUse = .run → readsMode i = true → s.mode.written = true) :
    eraseOutcome (exec i s) = eraseOutcome (exec i s') := by
  have hm' : s'.params.unwrittenUse = .run → readsMode i = true → s'.mode.written = true := by
    rwa [← eq_of_erase_eq (·.params) (fun _ => rfl) h, ← eq_of_erase_eq (·.mode.written) (fun t => erase_written _ t.mode) h]
  rw [← eraseOutcome_exec_erase hm, h, eraseOutcome_exec_erase hm']

/-- Outcomes with one erasure, and continuations that keep it. -/
theorem eraseOutcome_andThen {o o' : Host.Outcome State Fault Refusal} {f f' : State → Host.Outcome State Fault Refusal}
    (h : eraseOutcome o = eraseOutcome o')
    (hf : ∀ t t', o = .next t → t.erase = t'.erase → eraseOutcome (f t) = eraseOutcome (f' t')) :
    eraseOutcome (andThen o f) = eraseOutcome (andThen o' f') := by
  cases o with
  | next t =>
    cases o' with
    | next t' => exact hf t t' rfl (Host.Outcome.next.inj h)
    | fault | refused => cases h
  | fault r => cases r
  | refused r =>
    cases o' with
    | refused r' => cases h; rfl
    | next | fault => cases h

/-- A command keeps the mark of the mode (R372). -/
theorem exec_mode_written {i : Instr} {s t : State} (h : exec i s = .next t) (hm : s.mode.written = true) : t.mode.written = true := by
  cases exec_wrote h with
  | matrix _ _ _ _ _ _ _ _ _ _ _ modeMark =>
    obtain rfl | hw := modeMark
    · exact hm
    · exact hw
  | vertex _ =>
    obtain ⟨_, _, _, _, e⟩ := addVtx_shape s (vertexCur i s)
    rw [e]
    exact hm
  | beginVtxs | posTest | swapBuffers | boxTest | nothing => exact hm

theorem ModeKnown.exec {i : Instr} {s t : State} (h : ModeKnown s) (ht : exec i s = .next t) : ModeKnown t := by
  intro hu
  rw [exec_params ht] at hu
  exact exec_mode_written ht (h hu)

/-- A drain in two states with one erasure: by induction over its turns, as both have the same queues. -/
theorem eraseOutcome_drain (k : Nat) {s s' : State} (h : s.erase = s'.erase) (hm : ModeKnown s) :
    eraseOutcome (drain k s) = eraseOutcome (drain k s') := by
  induction k generalizing s s' with
  | zero => exact congrArg Host.Outcome.next h
  | succ k ih =>
    have hcmdq : s.cmdq = s'.cmdq := eq_of_erase_eq (·.cmdq) (fun _ => rfl) h
    cases hq : s.cmdq with
    | nil =>
      rw [drain_nil _ hq, drain_nil _ (hcmdq.symm.trans hq)]
      exact congrArg Host.Outcome.next h
    | cons op ops =>
      have hcommand : headCommand op s = headCommand op s' := eq_of_erase_eq (headCommand op) (fun _ => rfl) h
      have hwords : s.params.arityOf op = s'.params.arityOf op := eq_of_erase_eq (·.params.arityOf op) (fun _ => rfl) h
      have hdrawn : (drawn op s).erase = (drawn op s').erase := erase_congr (drawn op) (fun _ => rfl) h
      have hmd : ModeKnown (drawn op s) := hm
      rw [drain_succ k hq, drain_succ k (hcmdq.symm.trans hq), hcommand, hwords]
      refine eraseOutcome_andThen (eraseOutcome_exec hdrawn fun hu _ => hmd hu) fun t t' ht htt' => ?_
      have hmt : ModeKnown t := hmd.exec ht
      exact ih (erase_congr (removeHead (s'.params.arityOf op)) (fun _ => rfl) htt') hmt

/-- Accumulating works on the erased state as on the state. -/
theorem accumulate_erase (w : Word) (s : State) : accumulate w s.erase = (accumulate w s).erase := by
  by_cases h : s.owed = 0
  · rw [accumulate_command h, accumulate_command (s := s.erase) h]
    rfl
  · rw [accumulate_parameter h, accumulate_parameter (s := s.erase) h]
    rfl

/-- A submit in two states with one erasure. -/
theorem eraseOutcome_submit (w : Word) {s s' : State} (h : s.erase = s'.erase) (hm : ModeKnown s) :
    eraseOutcome (submit w s) = eraseOutcome (submit w s') := by
  have ha : (accumulate w s).erase = (accumulate w s').erase := erase_congr _ (accumulate_erase w) h
  have hma : ModeKnown (accumulate w s) := by
    rw [accumulate_eq_withQueue]
    exact hm
  have howed : (accumulate w s).owed = (accumulate w s').owed := eq_of_erase_eq (·.owed) (fun _ => rfl) ha
  have hcmdq : (accumulate w s).cmdq = (accumulate w s').cmdq := eq_of_erase_eq (·.cmdq) (fun _ => rfl) ha
  by_cases h0 : (accumulate w s).owed = 0
  · rw [submit_of_ready h0, submit_of_ready (howed.symm.trans h0), hcmdq]
    exact eraseOutcome_andThen (eraseOutcome_drain _ ha hma) fun t t' _ htt' =>
      congrArg Host.Outcome.next (erase_congr updateStatus (fun _ => rfl) htt')
  · rw [submit_of_owed h0, submit_of_owed (howed ▸ h0)]
    exact congrArg Host.Outcome.next (erase_congr updateStatus (fun _ => rfl) ha)

/-- Settles O56: by the command, and by the events a step can be. -/
theorem unwrittenValuesDoNotLeak : Obligations.UnwrittenValuesDoNotLeak := by
  refine ⟨fun i s s' h hm => eraseOutcome_exec h hm, fun s s' h hm => ?_⟩
  have hinput : s.input = s'.input := eq_of_erase_eq (·.input) (fun _ => rfl) h
  unfold step
  rw [← hinput]
  cases s.input with
  | nil => exact congrArg Host.Outcome.next h
  | cons e rest =>
    have hrest : { s with input := rest }.erase = { s' with input := rest }.erase :=
      erase_congr (fun t => { t with input := rest }) (fun _ => rfl) h
    cases e with
    | submit w => exact eraseOutcome_submit w hrest hm
    | writeEnEmpty b => exact congrArg Host.Outcome.next (erase_congr (fun t => { t with enEmpty := b }) (fun _ => rfl) hrest)
    | writeEnHalf b => exact congrArg Host.Outcome.next (erase_congr (fun t => { t with enHalf := b }) (fun _ => rfl) hrest)

end Sys2Proof.Laws
end
